-- ==== Sys2Proof/Word.lean ====
section
/-! DEFINITION. The word types of the PT740 (00_scope "The shared store", R182) and their plainest arithmetic. -/

namespace Sys2Proof

/-- A store word: the store is addressed in 16-bit words (R161). -/
abbrev Word := BitVec 16
/-- Half a store word; also a user byte, a take byte and a byte of a time word (R56, R67). -/
abbrev Byte := BitVec 8
/-- A frame number: 0 to 2^32 - 1, wrapping (R2). Also any other two-word number. -/
abbrev FrameNo := BitVec 32
/-- A set of roster devices, device n at bit n (R182). -/
abbrev DeviceSet := BitVec 16
/-- A set of take groups, group n at bit n (R182). -/
abbrev GroupSet := BitVec 8

abbrev PortId := Fin 12
abbrev LineId := Fin 8
abbrev OutputId := Fin 4
abbrev InputId := Fin 8
abbrev DeviceId := Fin 16
abbrev MarkId := Fin 16
abbrev GroupId := Fin 8
abbrev SlotId := Fin 64

end Sys2Proof
end

