-- ==== Sys2Proof/Syntax.lean ====
section
/-! DEFINITION. The commands of the PT740: one constructor of `Instr` for each row of spec/opcode_table.json. The
operands are the model's (entry 2): the rows give none. -/

namespace Sys2Proof

/-- The timing words of a slot, words 3 to 7 (10.3, R147). -/
structure Timing where
  timing : Word
  due : FrameNo
  interval : Word
  count : Word
deriving DecidableEq, Repr

/-- An order carried out when the scanner takes it (R147). -/
def Timing.atOnce : Timing := { timing := 0, due := 0, interval := 0, count := 0 }

/-- Arguments of CLOCK_START, words 8 to 18 (10.3, R5). -/
structure ClockStartArgs where
  rate : Word
  hh : Word
  mm : Word
  ss : Word
  ff : Word
  refUse : Word
  paramFlag : Word
  slew : Word
  window : Word
  holdover : Word
  crash : Word
deriving DecidableEq, Repr

/-- Arguments of CLOCK_TUNE, words 8 to 12 (10.3, R7). -/
structure ClockTuneArgs where
  slew : Word
  window : Word
  holdover : Word
  crash : Word
  refUse : Word
deriving DecidableEq, Repr

/-- Arguments of PORT_SET, words 8 to 16 (10.3, R26). -/
structure PortSetArgs where
  port : Word
  events : Word
  frames : Word
  phase : BitVec 32
  shape : Word
  width : Word
  gate : Word
  invert : Word
deriving DecidableEq, Repr

/-- Arguments of TALLY_SET, words 8 to 11 (10.3, R41): word 10 is the pulse count, the group or the polarity. -/
structure TallySetArgs where
  line : Word
  action : Word
  value : Word
  invert : Word
deriving DecidableEq, Repr

/-- Arguments of OUTPUT_SET, words 8 to 17 (10.3, R68). -/
structure OutputSetArgs where
  output : Word
  mode : Word
  burst : Word
  wake : Word
  grace : Word
  attempts : Word
  verify : Word
  group : Word
  idleIndex : Word
  openIndex : Word
deriving DecidableEq, Repr

/-- Arguments of INPUT_SET, words 8 to 10 (10.3, R75). -/
structure InputSetArgs where
  input : Word
  enable : Word
  delay : Word
deriving DecidableEq, Repr

/-- Arguments of DEVICE_ENROL, words 8 to 19 (10.3, R82). -/
structure DeviceEnrolArgs where
  device : Word
  input : Word
  jamOutput : Word
  groups : Word
  soft : Word
  hard : BitVec 32
  threshold : Word
  filter : Word
  policy : Word
  silence : Word
  driftWindow : Word
deriving DecidableEq, Repr

/-- Arguments of MARK_SET, words 8 to 17 (10.3, R119). -/
structure MarkSetArgs where
  input : Word
  role : Word
  target : Word
  edge : Word
  windowBase : FrameNo
  windowLimit : FrameNo
  holdoff : Word
  quiet : Word
deriving DecidableEq, Repr

/-- Arguments of GROUP_SET and TAKE_OPEN, words 8 to 10 (10.3, R128, R131). -/
structure TagArgs where
  group : Word
  tag : BitVec 32
deriving DecidableEq, Repr

/-- Arguments of a query, words 8 to 10 (10.3, R180). QUERY_CLOCK does not name `subject`. -/
structure QueryArgs where
  address : Word
  capacity : Word
  subject : Word
deriving DecidableEq, Repr

/-- An order as it stands in a slot: its kind and arguments (10.3, 10.6). -/
inductive Order where
  | clockStart (a : ClockStartArgs)
  | clockTune (a : ClockTuneArgs)
  | clockStop
  | portSet (a : PortSetArgs)
  | portOff (port : Word)
  | tallySet (a : TallySetArgs)
  | outputSet (a : OutputSetArgs)
  | userTable (entries : Vector Word 16)
  | inputSet (a : InputSetArgs)
  | deviceEnrol (a : DeviceEnrolArgs)
  | deviceDrop (device : Word)
  | faultAck (device : Word)
  | jam (selector number : Word)
  | markSet (a : MarkSetArgs)
  | groupSet (a : TagArgs)
  | takeOpen (a : TagArgs)
  | takeClose (group : Word)
  | markInject (group kind : Word)
  | cancel (target : Word)
  | queryClock (address capacity : Word)
  | queryDevice (a : QueryArgs)
  | queryTake (a : QueryArgs)
  | queryMark (a : QueryArgs)
deriving DecidableEq, Repr

/-- What the stage does that brings or ends a hard reset (R188). -/
inductive ResetEvent where
  /-- RESET# goes low. -/
  | assert
  /-- RESET# goes high. -/
  | release
  /-- Power comes on, with VDD and VDDIO outside their limits. -/
  | powerOn
  /-- VDD and VDDIO come within their limits. -/
  | powerGood
deriving DecidableEq, Repr

/-- The commands. `wait` is the number of reference ticks that pass before the command is taken (entry 2). An order's
row carries the slot it is filed in, its timing words and its arguments (entry 6). The rows of RESET#, HREF, MARK and TWI
pins carry what the stage does to the pin: it does so first, `wait` reference ticks sample it, and then the pin's edge is
taken if it is due (R187, entry 2). Before a MARK pin is driven its row lets `lead` reference ticks pass. -/
inductive Instr where
  | hardReset (wait : Nat) (event : ResetEvent)
  | softReset (wait : Nat)
  | initialisationEnd (wait : Nat)
  | nudge (wait : Nat) (value : Word)
  | attnClearUrgent (wait : Nat)
  | attnClearClock (wait : Nat)
  | registerWrite (wait : Nat) (address value : Word)
  | readCountWrite (wait : Nat) (value : Word)
  | noticeLevelWrite (wait : Nat) (value : Word)
  | attentionMaskWrite (wait : Nat) (value : Word)
  | frameBoundary (wait : Nat)
  | hrefMissing (wait : Nat)
  | holdoverExpiry (wait : Nat)
  | hrefArrival (wait : Nat) (level : Bool)
  | clockStart (wait : Nat) (slot : SlotId) (t : Timing) (a : ClockStartArgs)
  | clockTune (wait : Nat) (slot : SlotId) (t : Timing) (a : ClockTuneArgs)
  | clockStop (wait : Nat) (slot : SlotId) (t : Timing)
  | portSet (wait : Nat) (slot : SlotId) (t : Timing) (a : PortSetArgs)
  | portOff (wait : Nat) (slot : SlotId) (t : Timing) (port : Word)
  | portSettingApply (wait : Nat) (port : PortId)
  | unitEvent (wait : Nat) (port : PortId)
  | portPulseEnd (wait : Nat) (port : PortId)
  | tallySetSet (wait : Nat) (slot : SlotId) (t : Timing) (line : Word)
  | tallySetClear (wait : Nat) (slot : SlotId) (t : Timing) (line : Word)
  | tallySetToggle (wait : Nat) (slot : SlotId) (t : Timing) (line : Word)
  | tallySetPulse (wait : Nat) (slot : SlotId) (t : Timing) (line count : Word)
  | tallySetBind (wait : Nat) (slot : SlotId) (t : Timing) (line group invert : Word)
  | tallySetUnbind (wait : Nat) (slot : SlotId) (t : Timing) (line invert : Word)
  | tallySetPolarity (wait : Nat) (slot : SlotId) (t : Timing) (line value : Word)
  | tallyPulseEnd (wait : Nat) (line : LineId)
  | wordBoundary (wait : Nat) (output : OutputId)
  | outputSet (wait : Nat) (slot : SlotId) (t : Timing) (a : OutputSetArgs)
  | userTable (wait : Nat) (slot : SlotId) (t : Timing) (entries : Vector Word 16)
  | inputSet (wait : Nat) (slot : SlotId) (t : Timing) (a : InputSetArgs)
  | timeWordArrival (wait : Nat) (input : InputId)
  | lineQuiet (wait : Nat) (input : InputId)
  | silence (wait : Nat) (device : DeviceId)
  | deviceEnrol (wait : Nat) (slot : SlotId) (t : Timing) (a : DeviceEnrolArgs)
  | deviceDrop (wait : Nat) (slot : SlotId) (t : Timing) (device : Word)
  | faultAck (wait : Nat) (slot : SlotId) (t : Timing) (device : Word)
  | jam (wait : Nat) (slot : SlotId) (t : Timing) (selector number : Word)
  | verifyExpiry (wait : Nat) (output : OutputId)
  | markEdge (wait : Nat) (pin : MarkId) (level : Bool) (lead : Nat)
  | latchReArm (wait : Nat) (pin : MarkId)
  | markSet (wait : Nat) (slot : SlotId) (t : Timing) (a : MarkSetArgs)
  | markInject (wait : Nat) (slot : SlotId) (t : Timing) (group kind : Word)
  | groupSet (wait : Nat) (slot : SlotId) (t : Timing) (a : TagArgs)
  | takeOpen (wait : Nat) (slot : SlotId) (t : Timing) (a : TagArgs)
  | takeClose (wait : Nat) (slot : SlotId) (t : Timing) (group : Word)
  | cancel (wait : Nat) (slot : SlotId) (t : Timing) (target : Word)
  | queryClock (wait : Nat) (slot : SlotId) (t : Timing) (address capacity : Word)
  | queryDevice (wait : Nat) (slot : SlotId) (t : Timing) (a : QueryArgs)
  | queryTake (wait : Nat) (slot : SlotId) (t : Timing) (a : QueryArgs)
  | queryMark (wait : Nat) (slot : SlotId) (t : Timing) (a : QueryArgs)
  | idleTimerExpiry (wait : Nat)
  | scan (wait : Nat) (looks : Nat)
  | scheduleFiring (wait : Nat) (slot : SlotId)
  | reportWrite (wait : Nat)
  | completionWrite (wait : Nat)
  | twiLevelChange (wait : Nat) (input : InputId) (level : Bool)
  | cellStart (wait : Nat) (output : OutputId)
deriving DecidableEq, Repr

end Sys2Proof
end

