-- ==== Sys2Proof/Decode.lean ====
section
/-! DEFINITION. What a word spells: the PT740's table gives no row any bits, so no word spells a command. -/

namespace Sys2Proof

/-- The command a word spells by the table's bits: none, since no row of spec/opcode_table.json has any (entry 13). -/
def decodeTableWord (_nbits _w : Nat) : Option Instr := none

end Sys2Proof
end

