-- ==== Sys2Proof/Config.lean ====
section
/-! DEFINITION. What the spec leaves to the part: the free values of the model. -/

namespace Sys2Proof

/-- FREE VALUE (entry 8). R188 says that a hard reset "needs RESET# low for at least 16 reference ticks"; it does not say
what a shorter pulse does. After how many ticks of its n-th pulse the part resets, when before the sixteenth, is this
constant: it has no body, so nothing can be proved of its value. -/
opaque Config.resetTicks : Nat → Nat

/-- FREE VALUE (entry 28). R114 and R143 let a failed listener's entry into ADRIFT reach the Take Table before or after it
closes its open takes at a stop. How many outputs' runs have ended at the n-th stop before group g's take closes is this
constant. -/
opaque Config.runsEndedBefore : Nat → GroupId → Nat

/-- FREE VALUE (entry 28). R143 lets other notices of a stop reach the Take Table before or after its closings, the notice
that the clock has left LOCKED among them (R22). Whether that notice of the n-th stop comes before group g's take closes is
this constant. -/
opaque Config.unlockedBefore : Nat → GroupId → Bool

end Sys2Proof
end

