-- ==== Sys2Proof/Machine/State.lean ====
section
/-! DEFINITION. The state of the PT740: every item the spec gives each block, as plain data, and the state after a
hard reset. What an item means and when it changes is with the block's operations. -/

namespace Sys2Proof.Machine

/-! ## Picture positions and the Picture Clock (01_picture_time) -/

/-- A picture position (00_scope "Frame numbers and positions"): a frame and a tick within it. -/
structure Position where
  frame : FrameNo
  tick : Nat
deriving DecidableEq, Repr

/-- R4: the clock's states. -/
inductive ClockState where
  | stopped | freeRun | locking | locked | holdover
deriving DecidableEq, Repr

/-- R22: why the clock's state changed. -/
inductive ClockCause where
  | start | stop | tune | arrival | lockRun | unlockRun | missing | expiry
deriving DecidableEq, Repr

/-- How the current reference tick carries picture ticks (R1, R14). -/
inductive TickPhase where
  /-- The picture tick came with this reference tick. -/
  | single
  /-- An inserted reference tick: the picture tick is held over. -/
  | held
  /-- A reference tick that carries two picture ticks, with the earlier in force. -/
  | early
  /-- The same, with the later in force. -/
  | late
deriving DecidableEq, Repr

/-- R7: the five values a tune carries. -/
structure Tune where
  slew : Nat
  window : Nat
  holdover : Nat
  crash : Bool
  refUse : Bool
deriving DecidableEq, Repr

/-- R4: the error of the arrival taken in the current frame, and the state it was taken in. -/
structure OrderedError where
  error : Int
  takenIn : ClockState
deriving DecidableEq, Repr

/-- R4: the Picture Clock. `phase`, `correction`, `arrived` and `settleOwed` are implied by R1, R13, R11 and R12. -/
structure Clock where
  state : ClockState
  frame : FrameNo
  tick : Nat
  phase : TickPhase
  /-- The correction of the current frame (R13). -/
  correction : Int
  rate : Nat
  startCount : Nat
  slew : Nat
  window : Nat
  holdoverLimit : Nat
  crashPermit : Bool
  refUse : Bool
  pendingTune : Option Tune
  ordered : Option OrderedError
  lockRun : Nat
  missingRun : Nat
  crashEligible : Bool
  history : List Int
  holdoverValue : Option Int
  holdoverCount : Nat
  /-- The current frame's arrival has been taken (R11). -/
  arrived : Bool
  /-- Steps 3 and 4 of R12 wait for a transition of R18 or R19 at this boundary (entry 4). -/
  settleOwed : Bool
deriving DecidableEq, Repr

/-! ## Rate ports and tally lines (02) -/

/-- R26: the shape of a port setting, with the fields only that shape reads. -/
inductive Shape where
  | pulse (width : Nat)
  | toggle
  | gate (event : Nat)
deriving DecidableEq, Repr

/-- R26: a port setting. `events` is E, `frames` is C. -/
structure PortSetting where
  events : Nat
  frames : Nat
  phase : Nat
  shape : Shape
  invert : Bool
deriving DecidableEq, Repr

/-- R25: what waits to apply at a port. -/
inductive PortPending where
  | setting (p : PortSetting)
  | off
deriving DecidableEq, Repr

/-- R25: a rate port. `nextEvent` is the j of its next unit event in this cadence (R28). -/
structure Port where
  active : Option PortSetting
  pending : Option PortPending
  applyFrame : Option FrameNo
  anchor : FrameNo
  cadenceFrame : Nat
  level : Bool
  pulse : Option Nat
  nextEvent : Nat
deriving DecidableEq, Repr

/-- R39, R40: a checked TALLY_SET action. -/
inductive TallyAction where
  | set
  | clear
  | toggle
  | pulse (n : Nat)
  | bind (g : GroupId) (invert : Bool)
  | unbind (invert : Bool)
  | polarity (v : Bool)
deriving DecidableEq, Repr

/-- R37: a tally line; `group` absent means FREE. -/
structure Line where
  group : Option GroupId
  invert : Bool
  level : Bool
  pulse : Option Nat
  pending : Option TallyAction
deriving DecidableEq, Repr

/-! ## Time word outputs (04) -/

/-- R60: what the host asks of an output. -/
inductive OutputMode where
  | off | continuous | burst
deriving DecidableEq, Repr

/-- R60: what an output is doing. -/
inductive OutputState where
  | off | silent | continuous | waking | bursting | grace
deriving DecidableEq, Repr

/-- R60, R68: an output's settings: J, W, G, the jam attempt limit, V and the word's choices. -/
structure OutputSettings where
  mode : OutputMode
  burst : Nat
  wake : Nat
  grace : Nat
  attempts : Nat
  verify : Nat
  group : Option GroupId
  idleIndex : Fin 16
  openIndex : Fin 16
deriving DecidableEq, Repr

/-- R60: a word in progress: the composed word and the next cell to send, 0 to 128. -/
structure SentWord where
  bits : BitVec 64
  nextCell : Nat
deriving DecidableEq, Repr

/-- R60: a time word output. A burst request keeps the frame it was accepted in, since it
starts at the first word boundary after that instant (R63). -/
structure Output where
  settings : OutputSettings
  state : OutputState
  anchor : FrameNo
  wordFrame : Nat
  wordsLeft : Option Nat
  cut : Bool
  word : Option SentWord
  level : Bool
  request : Option FrameNo
  pending : Option OutputSettings
  /-- This frame boundary is a word boundary that the output has not yet acted on (R59, R61). -/
  boundaryOwed : Bool
deriving DecidableEq, Repr

/-! ## Time word inputs and the Device Roster (05) -/

/-- R74: the receiver's states. -/
inductive ReceiverState where
  | idle | hunt | word
deriving DecidableEq, Repr

/-- R76, R78: bit 63 of the word being received, from its start to the word's arrival. -/
structure LastBit where
  /-- The length of bit 62, after which the arrival is taken. -/
  length : Nat
  /-- Reference ticks since the start of bit 63. -/
  elapsed : Nat
  /-- The bit, once decided. -/
  value : Option Bool
deriving DecidableEq, Repr

/-- R74: a time word input. -/
structure Input where
  enable : Bool
  delay : Nat
  badWords : Nat
  bound : Option DeviceId
  receiver : ReceiverState
  aligned : Bool
  /-- Half pending: the length of the first half of a 1 bit (R74, R76). -/
  half : Option Nat
  hunt : List Bool
  bits : List Bool
  synced : Bool
  lastLength : Nat
  /-- Reference ticks since the last level change, up to 23,000 (R76). -/
  since : Nat
  lastBit : Option LastBit
  /-- Bit 63 has been decided and the change that starts bit 0 of a following word has not come (R76). -/
  awaitStart : Bool
  /-- Bits of the following word decoded before the arrival of this one (R76). -/
  following : List Bool
deriving DecidableEq, Repr

/-- A label hh:mm:ss:ff (00_scope "Labels"). -/
structure Label where
  hh : Nat
  mm : Nat
  ss : Nat
  ff : Nat
deriving DecidableEq, Repr

/-- R81: the tracking states of an enrolled device. -/
inductive DeviceState where
  | absent | acquiring | tracking | adrift | silent | mismatch | jamming
deriving DecidableEq, Repr

/-- R99: why a device's state changed. -/
inductive DeviceReason where
  | enrol | drop | firstWord | rate | acquired | breach | jump | recovered | silence | start | reset | jamStart
  | verified | jamFailed
deriving DecidableEq, Repr

/-- R92: the direction filter. -/
inductive Filter where
  | lead | lag | both
deriving DecidableEq, Repr

/-- R81: the auto-jam policy. -/
inductive Policy where
  | none | atOnce | deferInTake
deriving DecidableEq, Repr

/-- R81, R94: the record of a first hard breach. -/
structure Capture where
  position : Position
  offset : Int
  label : Label
deriving DecidableEq, Repr

/-- R81: the settings of a device. -/
structure DeviceSettings where
  input : Option InputId
  jamOutput : Option OutputId
  groups : GroupSet
  soft : Nat
  hard : Nat
  threshold : Nat
  filter : Filter
  policy : Policy
  silence : Nat
  driftWindow : Nat
deriving DecidableEq, Repr

/-- R81: an enrolled record. -/
structure Device where
  settings : DeviceSettings
  state : DeviceState
  strikes : Nat
  lastOffset : Option Int
  validRun : Nat
  sinceWord : Nat
  drift : Option Int
  windowOffset : Int
  windowFrame : FrameNo
  windowCount : Nat
  capture : Option Capture
  breaches : Nat
  jamWanted : Bool
deriving DecidableEq, Repr

/-! ## Jam runs (06) -/

/-- R101, R104: where a run came from. `owed` says that the run still hands its order's completion at its end (R111,
R172), `late` that the completion is DONE_LATE (R148). -/
inductive RunOrigin where
  | auto
  | order (slot : SlotId) (again : Bool) (late : Bool) (owed : Bool)
deriving DecidableEq, Repr

/-- R101: the phase of a run; the expiry frame is present in VERIFYING. -/
inductive RunPhase where
  | requested
  | sending
  | verifying (expiry : FrameNo)
deriving DecidableEq, Repr

/-- R110: why a run ended. -/
inductive RunCause where
  | complete | cut | stop
deriving DecidableEq, Repr

/-- R101: a run record; its output is its place in the bank. -/
structure Run where
  origin : RunOrigin
  attempts : Nat
  phase : RunPhase
  listeners : DeviceSet
  waiting : DeviceSet
  ok : DeviceSet
  failed : DeviceSet
  blind : DeviceSet
  startFrame : FrameNo
deriving DecidableEq, Repr

/-! ## Marks and takes (07) -/

/-- R118: the role of a mark input, with the target that role names. -/
inductive Role where
  | disabled
  | takeStart (g : GroupId)
  | takeEnd (g : GroupId)
  | clap (g : GroupId)
  | generic (g : GroupId)
  | tally (d : DeviceId)
deriving DecidableEq, Repr

/-- R118: which edges a mark input takes. -/
inductive Edge where
  | rise | fall | both
deriving DecidableEq, Repr

/-- R118: a mark input. The latch is FIRED exactly while its re-arm frame is present. -/
structure MarkInput where
  role : Role
  edge : Edge
  windowBase : FrameNo
  windowLimit : FrameNo
  holdoff : Nat
  quiet : Nat
  reArm : Option FrameNo
  remaining : Nat
  silent : Nat
  ignored : Nat
deriving DecidableEq, Repr

/-- R129: where a mark came from. -/
inductive MarkSource where
  | input (i : MarkId)
  | inject
deriving DecidableEq, Repr

/-- R129: a stored mark. The kind of an injected mark is the host's own code. -/
structure Mark where
  source : MarkSource
  kind : Word
  position : Position
deriving DecidableEq, Repr

/-- R129: what opened a take. -/
inductive Opener where
  | order (slot : SlotId)
  | schedule (slot : SlotId)
  | mark (i : MarkId)
deriving DecidableEq, Repr

/-- R129: what closed a take. -/
inductive Closer where
  | order (slot : SlotId)
  | schedule (slot : SlotId)
  | mark (i : MarkId)
  | clockStop
  | reset
deriving DecidableEq, Repr

/-- R132: a participant's entry. -/
structure Participant where
  device : DeviceId
  state : DeviceState
  lastOffset : Option Int
deriving DecidableEq, Repr

/-- R129: the flags of a take. -/
structure TakeFlags where
  suspect : Bool
  jammed : Bool
  clockUnlocked : Bool
  rateChanged : Bool
  marksOverflow : Bool
deriving DecidableEq, Repr

/-- R129: a take record; its group is its place in the bank. -/
structure Take where
  number : Nat
  tag : BitVec 32
  opener : Opener
  opened : Position
  openCount : Nat
  participants : List Participant
  marks : List Mark
  markTotal : Nat
  flags : TakeFlags
  suspects : DeviceSet
  closed : Option (Position × Closer)
deriving DecidableEq, Repr

/-- R128: a group record. It is OPEN exactly while its take record is present and has no close position. -/
structure Group where
  counter : Nat
  nextTag : BitVec 32
  take : Option Take
deriving DecidableEq, Repr

/-! ## The Schedule (08) and the results of orders (10.6) -/

/-- 10.6: result codes. -/
inductive ResultCode where
  | done | doneLate | malformed | unknownKind | badArg | busy | clash | tooLate | scheduleFull | notHeld
  | cancelled | notOpen | bound | noClock | noDevice | noPath
deriving DecidableEq, Repr

/-- R150: what an entry holds for a REPEAT. -/
structure Repeating where
  interval : Nat
  left : Option Nat
  fired : Nat
  missed : Nat
  firstFiring : Option FrameNo
  lastResult : Option ResultCode
  late : Bool
deriving DecidableEq, Repr

/-- R150: a held entry; `again` is present for REPEAT. -/
structure Entry where
  slot : SlotId
  kind : Word
  due : FrameNo
  again : Option Repeating
deriving DecidableEq, Repr

/-- R154: why a held entry was lost. -/
inductive LostCause where
  | firing | retaken | cancel | stop
deriving DecidableEq, Repr

/-! ## The Report Writer (09) -/

/-- R33, R34: the outcome of a port setting's application. -/
inductive PortOutcome where
  | active | off | dropped
deriving DecidableEq, Repr

/-- R33 to R35: the cause of a port setting's application. -/
inductive PortCause where
  | cadence | start | step
deriving DecidableEq, Repr

/-- R179, R184: a report's kind with its subject and detail. A device state absent is NONE. -/
inductive ReportBody where
  | clockState (previous new : ClockState) (cause : ClockCause) (holdover : Option Int)
  | clockStepped (step error : Int) (cut : FrameNo)
  | portApplied (port : PortId) (outcome : PortOutcome) (cause : PortCause) (anchor : FrameNo) (width : Nat)
  | deviceState (device : DeviceId) (previous new : Option DeviceState) (reason : DeviceReason) (strikes : Nat)
      (offset : Option Int) (extra : BitVec 32)
  | drift (device : DeviceId) (offset : Int) (threshold : Nat) (estimate : Option Int) (policy : Policy)
      (jamWanted : Bool)
  | fault (device : DeviceId) (offset : Int) (label : Label) (state : DeviceState)
  | jamResult (output : OutputId) (origin : RunOrigin) (cause : RunCause) (attempts : Nat)
      (ok failed blind : DeviceSet)
  | mark (source : MarkSource) (kind : Word) (placed stored : GroupSet) (silent : Nat)
  | markStray (input : MarkId) (kind : Word) (target : Nat)
  | takeOpened (group : GroupId) (number : Nat) (tag : BitVec 32) (opener : Opener) (participants : DeviceSet)
      (flags : TakeFlags) (count : Nat)
  | takeClosed (group : GroupId) (number : Nat) (tag : BitVec 32) (closer : Closer) (flags : TakeFlags)
      (suspects : DeviceSet) (markTotal stored : Nat)
  | slotLost (slot : SlotId) (cause : LostCause) (held found kind check : Word) (due : FrameNo) (fired missed : Nat)
  | logGap (gap dropped : Nat)
deriving DecidableEq, Repr

/-- R179: a report waiting to be written. -/
structure Report where
  position : Position
  urgent : Bool
  body : ReportBody
deriving DecidableEq, Repr

/-- R183: the three words of a short reply. -/
structure Reply where
  w29 : Word
  w30 : Word
  w31 : Word
deriving DecidableEq, Repr

/-- R180: a query's reply record with the area it goes to. -/
structure ReplyRecord where
  address : Nat
  capacity : Nat
  words : List Word
deriving DecidableEq, Repr

/-- R177: a completion waiting for its fence. -/
structure Completion where
  slot : SlotId
  code : ResultCode
  frame : FrameNo
  fired : Nat
  missed : Nat
  reply : Reply
  record : Option ReplyRecord
  fence : BitVec 32
deriving DecidableEq, Repr

/-- R174: an item of the output queue. -/
inductive QueueItem where
  | report (r : Report)
  | completion (c : Completion)
deriving DecidableEq, Repr

/-- R174: the Report Writer. `kept` holds what is handed while READY is 0 and `own` the reset's own reports (R166);
`urgent` and `clock` are the latched reasons of ATTN (R167). -/
structure Writer where
  accepted : BitVec 32
  sequence : Word
  written : Word
  dropped : Nat
  gap : Nat
  queue : List QueueItem
  kept : List QueueItem
  own : List Report
  urgent : Bool
  clock : Bool
deriving DecidableEq, Repr

/-- R170: the Order Board scanner. -/
structure Scanner where
  point : Option SlotId
  requested : Bool
  idle : Nat
deriving DecidableEq, Repr

/-! ## The shared store (09) -/

/-- The store's bytes: (address, byte) with addresses strictly rising and no byte 0, which is what an unlisted address
reads as (entry 7). Word a of R161 is bytes 2a, its low half, and 2a + 1. -/
abbrev Memory := List Host.Cell

/-- R164, R162: READY, the reference ticks the initialisation still takes, and whether the last reset was hard. -/
structure Bus where
  ready : Bool
  initLeft : Nat
  hard : Bool
deriving DecidableEq, Repr

/-- R187: a sampled input pin: the level the stage drives, the level last taken, and at how many consecutive reference
ticks, up to three, the other level has been sampled. -/
structure Pin where
  driven : Bool
  level : Bool
  samples : Nat
deriving DecidableEq, Repr

/-- R187: the pins sampled at every reference tick. -/
structure Pins where
  href : Pin
  marks : Vector Pin 16
  words : Vector Pin 8
deriving DecidableEq, Repr

/-- R188: whether a hard reset holds the part, whether RESET# is low and for how many reference ticks (up to 16), whether VDD
and VDDIO are within their limits, and the reference ticks that a power-on reset lasts from then on. -/
structure Hold where
  held : Bool
  low : Bool
  lowFor : Nat
  supply : Bool
  powerLeft : Nat
deriving DecidableEq, Repr

/-- What the present frame boundary still owes other blocks, which orders and edges of its instant may come before (R86, R117,
R138): the notice that the clock has left LOCKED, the roster's silence count and the automatic check (entry 4). -/
structure Owed where
  unlocked : Bool
  count : Bool
  check : Bool
deriving DecidableEq, Repr

/-- The model's own: how many pulses of RESET# and how many stops have been, the arguments of the next free values
(entries 8 and 28). -/
structure FreeUses where
  resets : Nat
  stops : Nat
deriving DecidableEq, Repr

/-! ## The whole machine -/

/-- The state of the PT740 with the queue of commands that wait. -/
structure State where
  clock : Clock
  ports : Vector Port 12
  lines : Vector Line 8
  outputs : Vector Output 4
  userBits : Vector Byte 16
  inputs : Vector Input 8
  devices : Vector (Option Device) 16
  runs : Vector (Option Run) 4
  marks : Vector MarkInput 16
  groups : Vector Group 8
  schedule : List Entry
  scanner : Scanner
  writer : Writer
  store : Memory
  bus : Bus
  pins : Pins
  hold : Hold
  owed : Owed
  uses : FreeUses
  pending : List Instr
deriving DecidableEq, Repr

/-- The spec names nothing that stops the part (INVENTORY "Faults"): no command raises a fault, so this type has no
constructor. Safe: no path of the hardware is cut short by one. -/
inductive Fault where
deriving DecidableEq, Repr

/-- Why the model gives a command no meaning. -/
inductive Refusal where
  /-- Raised by `exec` for a command whose meaning is not written yet, with the mnemonic of its row. Safe: the model
  stops where the hardware goes on. No arm raises it now. -/
  | notModelled (mnemonic : String)
deriving DecidableEq, Repr

/-! ## After a hard reset -/

/-- R4: the clock after a hard reset. -/
def Clock.reset : Clock :=
  { state := .stopped, frame := 0, tick := 0, phase := .single, correction := 0, rate := 0, startCount := 0
    slew := 64, window := 16, holdoverLimit := 1500, crashPermit := false, refUse := false, pendingTune := none
    ordered := none, lockRun := 0, missingRun := 0, crashEligible := false, history := [], holdoverValue := none
    holdoverCount := 0, arrived := false, settleOwed := false }

/-- R25: a rate port after a hard reset. -/
def Port.reset : Port :=
  { active := none, pending := none, applyFrame := none, anchor := 0, cadenceFrame := 0, level := false
    pulse := none, nextEvent := 0 }

/-- R37: a tally line after a hard reset. -/
def Line.reset : Line := { group := none, invert := false, level := false, pulse := none, pending := none }

/-- R60: an output after a hard reset. -/
def Output.reset : Output :=
  { settings := { mode := .off, burst := 4, wake := 2, grace := 8, attempts := 3, verify := 16, group := none
                  idleIndex := 0, openIndex := 0 }
    state := .off, anchor := 0, wordFrame := 0, wordsLeft := none, cut := false, word := none, level := false
    request := none, pending := none, boundaryOwed := false }

/-- R74: an input after a hard reset. -/
def Input.reset : Input :=
  { enable := false, delay := 0, badWords := 0, bound := none, receiver := .idle, aligned := false, half := none
    hunt := [], bits := [], synced := false, lastLength := 0, since := 0, lastBit := none
    awaitStart := false, following := [] }

/-- R118: a mark input after a hard reset. -/
def MarkInput.reset : MarkInput :=
  { role := .disabled, edge := .rise, windowBase := 1, windowLimit := 0, holdoff := 0, quiet := 0, reArm := none
    remaining := 0, silent := 0, ignored := 0 }

/-- R128: a group after a hard reset. -/
def Group.reset : Group := { counter := 0, nextTag := 0, take := none }

/-- R174, R167: the Report Writer after a reset. -/
def Writer.reset : Writer :=
  { accepted := 0, sequence := 0, written := 0, dropped := 0, gap := 0, queue := [], kept := [], own := []
    urgent := false, clock := false }

/-- R170: the scanner after a reset. -/
def Scanner.reset : Scanner := { point := none, requested := false, idle := 0 }

/-- A sampled pin as the model takes it at reset: low (entry 9). -/
def Pin.reset : Pin := { driven := false, level := false, samples := 0 }

/-- The machine as a hard reset leaves it (R188): every block at the hard-reset values of its chapter, READY 0, and
the 32,768 reference ticks of the store initialisation still to come (R164), RESET# released and the
supply within its limits. -/
def State.reset : State :=
  { clock := Clock.reset
    ports := Vector.replicate 12 Port.reset
    lines := Vector.replicate 8 Line.reset
    outputs := Vector.replicate 4 Output.reset
    userBits := Vector.replicate 16 0
    inputs := Vector.replicate 8 Input.reset
    devices := Vector.replicate 16 none
    runs := Vector.replicate 4 none
    marks := Vector.replicate 16 MarkInput.reset
    groups := Vector.replicate 8 Group.reset
    schedule := []
    scanner := Scanner.reset
    writer := Writer.reset
    store := []
    bus := { ready := false, initLeft := 32768, hard := true }
    pins := { href := Pin.reset, marks := Vector.replicate 16 Pin.reset, words := Vector.replicate 8 Pin.reset }
    hold := { held := false, low := false, lowFor := 0, supply := true, powerLeft := 0 }
    owed := { unlocked := false, count := false, check := false }
    uses := { resets := 0, stops := 0 }
    pending := [] }

end Sys2Proof.Machine
end

