-- ==== Sys2Proof/Machine/Labels.lean ====
section
/-! DEFINITION. The rate code table of R3 and the Label Unit of 03_labels_and_offsets: validity, label counts, labels,
offsets, the jump test and the drift estimate. It holds no state (R43). -/

namespace Sys2Proof.Machine

/-- R3: M, the picture ticks of a master frame. Codes above 10 name no rate. -/
def rateTicks : Nat → Nat
  | 0 => 1126125 | 1 => 1125000 | 2 => 1080000 | 3 => 900900 | 4 => 900900 | 5 => 900000
  | 6 => 562500 | 7 => 540000 | 8 => 450450 | 9 => 450450 | _ => 450000

/-- R3: K, the master frames one time word spans. -/
def rateSpan (r : Nat) : Nat := if r ≤ 5 then 1 else 2

/-- R3: the label base. -/
def labelBase : Nat → Nat
  | 0 => 24 | 1 => 24 | 2 => 25 | 3 => 30 | 4 => 30 | 5 => 30 | 6 => 48 | 7 => 50 | _ => 60

/-- R3: how many labels the drop rule skips; 0 for none. -/
def labelDrop : Nat → Nat
  | 3 => 2 | 8 => 4 | _ => 0

/-- R47: the frames of one label day. -/
def dayFrames (r : Nat) : Nat := 86400 * labelBase r - labelDrop r * 1296

/-- R44: the drop rule skips the label. -/
def labelSkipped (r : Nat) (l : Label) : Bool :=
  decide (l.ss = 0) && decide (l.ff < labelDrop r) && decide (l.mm % 10 ≠ 0)

/-- R44: validity of a label at a rate code. -/
def labelValid (r : Nat) (l : Label) : Bool :=
  decide (r ≤ 10) && decide (l.hh ≤ 23) && decide (l.mm ≤ 59) && decide (l.ss ≤ 59) &&
    decide (l.ff < labelBase r) && !labelSkipped r l

/-- R45: the count of a label without drop, at a base. -/
def nominalCount (b : Nat) (l : Label) : Nat := ((l.hh * 60 + l.mm) * 60 + l.ss) * b + l.ff

/-- R45, R46: the label count of a valid label. With no drop the second term is 0. -/
def labelCount (r : Nat) (l : Label) : Nat :=
  let tm := 60 * l.hh + l.mm
  nominalCount (labelBase r) l - labelDrop r * (tm - tm / 10)

/-- R47: the label count of a frame. -/
def frameCount (startCount r : Nat) (f : FrameNo) : Nat := (startCount + f.toNat) % dayFrames r

/-- R48: the label of a count at a base, without drop. -/
def nominalLabel (b n : Nat) : Label :=
  let sec := n / b
  { ff := n % b, ss := sec % 60, mm := sec / 60 % 60, hh := sec / 3600 }

/-- R49: the nominal number of a label count with drop d at base b. -/
def nominalNumber (b d n : Nat) : Nat :=
  let p := 10 * 60 * b - 9 * d
  let q := 60 * b - d
  let blocks := n / p
  let m := n % p
  if m < d then n + 9 * d * blocks else n + 9 * d * blocks + d * ((m - d) / q)

/-- R48, R49: the label of a label count. -/
def labelOf (r n : Nat) : Label :=
  if labelDrop r = 0 then nominalLabel (labelBase r) n
  else nominalLabel (labelBase r) (nominalNumber (labelBase r) (labelDrop r) n)

/-- Saturation to the range -m to +m. -/
def saturate (m : Nat) (x : Int) : Int := max (-(m : Int)) (min (m : Int) x)

/-- R51: the representative of x modulo the (even) day in the range -(day / 2) to day / 2 - 1. -/
def nearestDay (day : Nat) (x : Int) : Int := (x + (day / 2 : Nat)) % (day : Int) - (day / 2 : Nat)

/-- R50 to R52: the offset of a word carrying a label, arrived at a position on a line with a delay. -/
def wordOffset (startCount r : Nat) (l : Label) (p : Position) (delay : Nat) : Int :=
  let day := dayFrames r
  let arrival := frameCount startCount r p.frame
  let expected := (labelCount r l + rateSpan r) % day
  let delta := nearestDay day ((arrival : Int) - (expected : Int))
  saturate 2147483647 (delta * (rateTicks r : Int) + (p.tick : Int) - (delay : Int))

/-- R53: the jump test against the last offset held. -/
def isJump (r : Nat) (last : Option Int) (o : Int) : Bool :=
  match last with
  | none => false
  | some l => decide (rateTicks r / 8 < (o - l).natAbs)

/-- 00_scope: the signed reading of a difference of frame numbers. -/
def frameDiff (a b : FrameNo) : Int := (a - b).toInt

/-- R54, R55: the drift estimate of a completed window; none when the frame span is not positive. -/
def driftEstimate (startOffset : Int) (startFrame : FrameNo) (o : Int) (f : FrameNo) : Option Int :=
  let span := frameDiff f startFrame
  if 0 < span then some (saturate 32767 (Int.tdiv ((o - startOffset) * 1024) span)) else none

/-- ceil(a / b). -/
def ceilDiv (a b : Nat) : Nat := (a + b - 1) / b

/-- R28, R57: the ticks after a cadence start at which unit event j of E in C master frames falls, before the phase. -/
def eventTick (ticks frames events j : Nat) : Nat := ceilDiv (j * (frames * ticks)) events

/-- Rounds a quotient to nearest with ties away from zero. -/
def roundDiv (a : Int) (n : Nat) : Int :=
  if 0 ≤ a then ((2 * a.natAbs + n) / (2 * n) : Nat) else -((2 * a.natAbs + n) / (2 * n) : Nat)

/-- R19: the mean of the corrections, rounded to nearest with ties away from zero; 0 for an empty history. -/
def historyMean (h : List Int) : Int := if h.isEmpty then 0 else roundDiv h.sum h.length

/-- R14: a change of the frame's correction falls at this picture tick. -/
def isChangeTick (ticks : Nat) (c : Int) (t : Nat) : Bool :=
  (List.range c.natAbs).any fun k => (2 * k + 1) * ticks / (2 * c.natAbs) == t

end Sys2Proof.Machine
end

