-- ==== Sys2Proof/Machine/Store.lean ====
section
/-! DEFINITION. The named operations over the shared store: bytes in canonical form, words over them (R161), and the
places of the header, the slots, the log and the host area. -/

namespace Sys2Proof.Machine

/-- Every listed address is above `low`, addresses rise strictly, and no listed byte is 0. -/
def Memory.risingFrom : Nat → Memory → Bool
  | _, [] => true
  | low, (a, b) :: rest => decide (low ≤ a) && decide (b ≠ 0) && Memory.risingFrom (a + 1) rest

/-- The canonical form of the store. -/
def Memory.wf (m : Memory) : Bool := Memory.risingFrom 0 m

/-- The byte at an address: 0 where nothing is listed, which is what the hard initialisation writes (R164). -/
def Memory.get : Memory → Nat → Byte
  | [], _ => 0
  | (a, b) :: rest, x => if x = a then b else Memory.get rest x

/-- A cell, or nothing for the byte an unlisted address reads as. -/
def Memory.cell (x : Nat) (v : Byte) : Memory := if v = 0 then [] else [(x, v)]

/-- Writes one byte and keeps the canonical form. -/
def Memory.set : Memory → Nat → Byte → Memory
  | [], x, v => Memory.cell x v
  | (a, b) :: rest, x, v =>
    if x < a then Memory.cell x v ++ (a, b) :: rest
    else if x = a then Memory.cell x v ++ rest
    else (a, b) :: Memory.set rest x v

/-- Low half of a word. -/
def loByte (w : Word) : Byte := w.extractLsb' 0 8
/-- High half of a word. -/
def hiByte (w : Word) : Byte := w.extractLsb' 8 8

/-- R161: reads one whole word. -/
def Memory.word (m : Memory) (a : Nat) : Word := Memory.get m (2 * a + 1) ++ Memory.get m (2 * a)

/-- R161: writes one whole word. -/
def Memory.putWord (m : Memory) (a : Nat) (w : Word) : Memory :=
  Memory.set (Memory.set m (2 * a) (loByte w)) (2 * a + 1) (hiByte w)

/-- Writes words from an address upward, in word order. -/
def Memory.putWords : Memory → Nat → List Word → Memory
  | m, _, [] => m
  | m, a, w :: rest => Memory.putWords (Memory.putWord m a w) (a + 1) rest

/-- Low word of a two-word number (R182: low word first). -/
def lo16 (x : BitVec 32) : Word := x.extractLsb' 0 16
/-- High word of a two-word number. -/
def hi16 (x : BitVec 32) : Word := x.extractLsb' 16 16
/-- A two-word number from its low and high words. -/
def wide (lo hi : Word) : BitVec 32 := hi ++ lo

/-- A word that holds a number. -/
def num (n : Nat) : Word := BitVec.ofNat 16 n

namespace Address
/-! The header words of 10.2 and the areas of R161. -/
def signature : Nat := 0x0000
def version : Nat := 0x0001
def resetCause : Nat := 0x0002
def writtenCount : Nat := 0x0003
def droppedTotal : Nat := 0x0004
def frameLow : Nat := 0x0005
def frameHigh : Nat := 0x0006
def clockState : Nat := 0x0007
def readCount : Nat := 0x0010
def noticeLevel : Nat := 0x0011
def attentionMask : Nat := 0x0012
def lateGrace : Nat := 0x0013
/-- The size of the header. -/
def headerWords : Nat := 256
/-- R161: slot n stands at 0x0100 + 32 n. -/
def slot (n : SlotId) : Nat := 0x0100 + 32 * n.val
/-- R161: log record i stands at 0x0900 + 16 i. -/
def record (i : Nat) : Nat := 0x0900 + 16 * i
/-- R161: the host area's first word, and the first word after it. -/
def hostArea : Nat := 0x4900
def storeEnd : Nat := 0x8000
/-- The four registers of R161. -/
def ident : Nat := 0x8000
def attn : Nat := 0x8001
def nudge : Nat := 0x8002
def reset : Nat := 0x8003
end Address

namespace State

/-- A word of the store. -/
def word (s : State) (a : Nat) : Word := s.store.word a

/-- The store with one word written. -/
def putWord (s : State) (a : Nat) (w : Word) : State := { s with store := s.store.putWord a w }

/-- The store with words written from an address upward. -/
def putWords (s : State) (a : Nat) (ws : List Word) : State := { s with store := s.store.putWords a ws }

/-- Word k of slot n (10.3). -/
def slotWord (s : State) (n : SlotId) (k : Nat) : Word := s.word (Address.slot n + k)

/-- Writes a slot's state word (R169). -/
def putSlotState (s : State) (n : SlotId) (w : Word) : State := s.putWord (Address.slot n) w

/-- R162, R163: the read count as the host wrote it. -/
def readCount (s : State) : Word := s.word Address.readCount

/-- R163: the notice level as taken: 0 as 1, above 1,024 as 1,024. -/
def noticeLevel (s : State) : Nat :=
  let n := (s.word Address.noticeLevel).toNat
  if n = 0 then 1 else min n 1024

/-- R163: the mask's bits of the four reasons. -/
def attentionMask (s : State) : BitVec 4 := (s.word Address.attentionMask).extractLsb' 0 4

/-- R148, R163: the late grace, a value above 15 taken as 15. -/
def lateGrace (s : State) : Nat := min (s.word Address.lateGrace).toNat 15

/-- R167: (written count - read count) modulo 65,536. -/
def unread (s : State) : Nat := (s.writer.written - s.readCount).toNat

/-- R175, R178: the log has room when unread is below 1,024. -/
def logRoom (s : State) : Bool := decide (s.unread < 1024)

end State

end Sys2Proof.Machine
end

