-- ==== Sys2Proof/Machine/Formats.lean ====
section
/-! DEFINITION. The layouts and codes of 10_record_and_word_formats: orders in slots, report records, the packed words
of takes, and the time word. -/

namespace Sys2Proof.Machine

/-! ## 10.1 Encoding (R182) -/

/-- A signed number in one word. -/
def signed16 (x : Int) : Word := BitVec.ofInt 16 x
/-- A signed number in two words, low word first. -/
def signed32 (x : Int) : List Word := [lo16 (BitVec.ofInt 32 x), hi16 (BitVec.ofInt 32 x)]
/-- A wide number in two words, low word first. -/
def wide32 (x : BitVec 32) : List Word := [lo16 x, hi16 x]
/-- A number in two words. -/
def num32 (n : Nat) : List Word := wide32 (BitVec.ofNat 32 n)
/-- An optional small number: 0xFFFF when absent. -/
def optNum : Option Nat → Word
  | none => 0xFFFF
  | some n => num n
/-- An optional signed value in one word: 0x8000 when absent. -/
def optSigned16 : Option Int → Word
  | none => 0x8000
  | some x => signed16 x
/-- An optional signed value in two words: 0x8000_0000 when absent. -/
def optSigned32 : Option Int → List Word
  | none => wide32 0x80000000#32
  | some x => signed32 x
/-- A flag. -/
def flag (b : Bool) : Word := if b then 1 else 0
/-- A flag argument: 0 or 1, else out of range. -/
def readFlag (w : Word) : Option Bool := if w = 0 then some false else if w = 1 then some true else none
/-- A number below a bound. -/
def readFin (n : Nat) (w : Word) : Option (Fin n) := if h : w.toNat < n then some ⟨w.toNat, h⟩ else none
/-- An optional small number: the outer none is out of range, `some none` is absent. -/
def readOptFin (n : Nat) (w : Word) : Option (Option (Fin n)) :=
  if w = 0xFFFF then some none else (readFin n w).map some
/-- A number within a range. -/
def readRange (lo hi : Nat) (w : Word) : Option Nat := if lo ≤ w.toNat ∧ w.toNat ≤ hi then some w.toNat else none

/-! ## 10.6 Codes -/

def ClockState.code : ClockState → Word
  | .stopped => 0 | .freeRun => 1 | .locking => 2 | .locked => 3 | .holdover => 4
def ClockCause.code : ClockCause → Word
  | .start => 0 | .stop => 1 | .tune => 2 | .arrival => 3 | .lockRun => 4 | .unlockRun => 5 | .missing => 6
  | .expiry => 7
def PortOutcome.code : PortOutcome → Word
  | .active => 0 | .off => 1 | .dropped => 2
def PortCause.code : PortCause → Word
  | .cadence => 0 | .start => 1 | .step => 2
def ReceiverState.code : ReceiverState → Word
  | .idle => 0 | .hunt => 1 | .word => 2
def DeviceState.code : DeviceState → Word
  | .absent => 0 | .acquiring => 1 | .tracking => 2 | .adrift => 3 | .silent => 4 | .mismatch => 5 | .jamming => 6
/-- A device state or NONE. -/
def deviceStateCode : Option DeviceState → Word
  | none => 0xFFFF
  | some d => d.code
def DeviceReason.code : DeviceReason → Word
  | .enrol => 0 | .drop => 1 | .firstWord => 2 | .rate => 3 | .acquired => 4 | .breach => 5 | .jump => 6
  | .recovered => 7 | .silence => 8 | .start => 9 | .reset => 10 | .jamStart => 11 | .verified => 12
  | .jamFailed => 13
def Filter.code : Filter → Word
  | .lead => 0 | .lag => 1 | .both => 2
def readFilter (w : Word) : Option Filter :=
  if w = 0 then some .lead else if w = 1 then some .lag else if w = 2 then some .both else none
def Policy.code : Policy → Word
  | .none => 0 | .atOnce => 1 | .deferInTake => 2
def readPolicy (w : Word) : Option Policy :=
  if w = 0 then some .none else if w = 1 then some .atOnce else if w = 2 then some .deferInTake else none
def readMode (w : Word) : Option OutputMode :=
  if w = 0 then some .off else if w = 1 then some .continuous else if w = 2 then some .burst else none
def RunCause.code : RunCause → Word
  | .complete => 0 | .cut => 2 | .stop => 3
def RunOrigin.code : RunOrigin → Word
  | .auto => 0 | .order _ again _ _ => if again then 2 else 1
def Edge.code : Edge → Word
  | .rise => 0 | .fall => 1 | .both => 2
def readEdge (w : Word) : Option Edge :=
  if w = 0 then some .rise else if w = 1 then some .fall else if w = 2 then some .both else none
def Role.code : Role → Word
  | .disabled => 0 | .takeStart _ => 1 | .takeEnd _ => 2 | .clap _ => 3 | .generic _ => 4 | .tally _ => 5
/-- The target a role names; DISABLED names none. -/
def Role.target : Role → Option Nat
  | .disabled => none
  | .takeStart g | .takeEnd g | .clap g | .generic g => some g.val
  | .tally d => some d.val
/-- R119: a role with its target; none when either is out of range. The target of DISABLED is not read. -/
def readRole (role target : Word) : Option Role :=
  if role = 0 then some .disabled
  else if role = 1 then (readFin 8 target).map .takeStart
  else if role = 2 then (readFin 8 target).map .takeEnd
  else if role = 3 then (readFin 8 target).map .clap
  else if role = 4 then (readFin 8 target).map .generic
  else if role = 5 then (readFin 16 target).map .tally
  else none
def ResultCode.code : ResultCode → Word
  | .done => 0 | .doneLate => 1 | .malformed => 2 | .unknownKind => 3 | .badArg => 4 | .busy => 5 | .clash => 6
  | .tooLate => 7 | .scheduleFull => 8 | .notHeld => 9 | .cancelled => 10 | .notOpen => 11 | .bound => 12
  | .noClock => 13 | .noDevice => 14 | .noPath => 15
/-- R169: the state a completed slot reads: DONE for DONE and DONE_LATE, REFUSED for every other. -/
def ResultCode.slotState : ResultCode → Word
  | .done | .doneLate => 4
  | _ => 5
def LostCause.code : LostCause → Word
  | .firing => 0 | .retaken => 1 | .cancel => 2 | .stop => 3

namespace SlotState
/-! The slot states of R169. -/
def free : Word := 0
def filed : Word := 1
def taken : Word := 2
def held : Word := 3
end SlotState

namespace MarkKind
/-! The mark kinds of 10.6. -/
def start : Word := 1
def restart : Word := 2
def takeEnd : Word := 3
def clap : Word := 4
def generic : Word := 5
def rollOn : Word := 6
def rollOff : Word := 7
end MarkKind

/-! ## 10.3 Orders in slots -/

/-- 10.6: the kind code of an order. -/
def orderKind : Order → Word
  | .clockStart _ => 0x01 | .clockTune _ => 0x02 | .clockStop => 0x03 | .portSet _ => 0x10 | .portOff _ => 0x11
  | .tallySet _ => 0x18 | .outputSet _ => 0x20 | .userTable _ => 0x21 | .inputSet _ => 0x28
  | .deviceEnrol _ => 0x30 | .deviceDrop _ => 0x31 | .faultAck _ => 0x32 | .jam _ _ => 0x38 | .markSet _ => 0x40
  | .groupSet _ => 0x48 | .takeOpen _ => 0x49 | .takeClose _ => 0x4A | .markInject _ _ => 0x4B | .cancel _ => 0x50
  | .queryClock _ _ => 0x60 | .queryDevice _ => 0x61 | .queryTake _ => 0x62 | .queryMark _ => 0x63

/-- 10.3: the argument words of an order, from word 8; words the kind does not name are left out and stand 0. -/
def orderArgs : Order → List Word
  | .clockStart a => [a.rate, a.hh, a.mm, a.ss, a.ff, a.refUse, a.paramFlag, a.slew, a.window, a.holdover, a.crash]
  | .clockTune a => [a.slew, a.window, a.holdover, a.crash, a.refUse]
  | .clockStop => []
  | .portSet a => [a.port, a.events, a.frames, lo16 a.phase, hi16 a.phase, a.shape, a.width, a.gate, a.invert]
  | .portOff p => [p]
  | .tallySet a => [a.line, a.action, a.value, a.invert]
  | .outputSet a => [a.output, a.mode, a.burst, a.wake, a.grace, a.attempts, a.verify, a.group, a.idleIndex,
      a.openIndex]
  | .userTable e => e.toList
  | .inputSet a => [a.input, a.enable, a.delay]
  | .deviceEnrol a => [a.device, a.input, a.jamOutput, a.groups, a.soft, lo16 a.hard, hi16 a.hard, a.threshold,
      a.filter, a.policy, a.silence, a.driftWindow]
  | .deviceDrop d => [d]
  | .faultAck d => [d]
  | .jam sel n => [sel, n]
  | .markSet a => [a.input, a.role, a.target, a.edge, lo16 a.windowBase, hi16 a.windowBase, lo16 a.windowLimit,
      hi16 a.windowLimit, a.holdoff, a.quiet]
  | .groupSet a => [a.group, lo16 a.tag, hi16 a.tag]
  | .takeOpen a => [a.group, lo16 a.tag, hi16 a.tag]
  | .takeClose g => [g]
  | .markInject g k => [g, k]
  | .cancel t => [t]
  | .queryClock a c => [a, c]
  | .queryDevice a => [a.address, a.capacity, a.subject]
  | .queryTake a => [a.address, a.capacity, a.subject]
  | .queryMark a => [a.address, a.capacity, a.subject]

/-- The sixteen argument words of a slot, words 8 to 23, with reserved words 0. -/
def argWords (o : Order) : List Word := orderArgs o ++ List.replicate (16 - (orderArgs o).length) 0

/-- 10.3: the order that a kind word and the argument words of a slot hold; `w k` is word k of the slot. None for a kind
that 10.6 does not list. -/
def readOrder (kind : Word) (w : Nat → Word) : Option Order :=
  match kind.toNat with
  | 0x01 => some (.clockStart { rate := w 8, hh := w 9, mm := w 10, ss := w 11, ff := w 12, refUse := w 13
                                paramFlag := w 14, slew := w 15, window := w 16, holdover := w 17, crash := w 18 })
  | 0x02 => some (.clockTune { slew := w 8, window := w 9, holdover := w 10, crash := w 11, refUse := w 12 })
  | 0x03 => some .clockStop
  | 0x10 => some (.portSet { port := w 8, events := w 9, frames := w 10, phase := wide (w 11) (w 12), shape := w 13
                             width := w 14, gate := w 15, invert := w 16 })
  | 0x11 => some (.portOff (w 8))
  | 0x18 => some (.tallySet { line := w 8, action := w 9, value := w 10, invert := w 11 })
  | 0x20 => some (.outputSet { output := w 8, mode := w 9, burst := w 10, wake := w 11, grace := w 12
                               attempts := w 13, verify := w 14, group := w 15, idleIndex := w 16
                               openIndex := w 17 })
  | 0x21 => some (.userTable (Vector.ofFn fun i : Fin 16 => w (8 + i.val)))
  | 0x28 => some (.inputSet { input := w 8, enable := w 9, delay := w 10 })
  | 0x30 => some (.deviceEnrol { device := w 8, input := w 9, jamOutput := w 10, groups := w 11, soft := w 12
                                 hard := wide (w 13) (w 14), threshold := w 15, filter := w 16, policy := w 17
                                 silence := w 18, driftWindow := w 19 })
  | 0x31 => some (.deviceDrop (w 8))
  | 0x32 => some (.faultAck (w 8))
  | 0x38 => some (.jam (w 8) (w 9))
  | 0x40 => some (.markSet { input := w 8, role := w 9, target := w 10, edge := w 11
                             windowBase := wide (w 12) (w 13), windowLimit := wide (w 14) (w 15)
                             holdoff := w 16, quiet := w 17 })
  | 0x48 => some (.groupSet { group := w 8, tag := wide (w 9) (w 10) })
  | 0x49 => some (.takeOpen { group := w 8, tag := wide (w 9) (w 10) })
  | 0x4A => some (.takeClose (w 8))
  | 0x4B => some (.markInject (w 8) (w 9))
  | 0x50 => some (.cancel (w 8))
  | 0x60 => some (.queryClock (w 8) (w 9))
  | 0x61 => some (.queryDevice { address := w 8, capacity := w 9, subject := w 10 })
  | 0x62 => some (.queryTake { address := w 8, capacity := w 9, subject := w 10 })
  | 0x63 => some (.queryMark { address := w 8, capacity := w 9, subject := w 10 })
  | _ => none

/-- Words 1 to 23 of a slot that holds an order: kind, kind check, timing words and arguments (10.3). -/
def orderWords (t : Timing) (o : Order) : List Word :=
  [orderKind o, ~~~ orderKind o, t.timing, lo16 t.due, hi16 t.due, t.interval, t.count] ++ argWords o

/-! ## 10.4 Report records -/

/-- The type and number of an opener. -/
def Opener.parts : Opener → Nat × Nat
  | .order n => (0, n.val) | .schedule n => (1, n.val) | .mark i => (2, i.val)
/-- R184: slot or input in bits 0 to 5, type in bits 6 and 7. -/
def Opener.word (o : Opener) : Word := num (o.parts.2 + 64 * o.parts.1)
/-- The type and number of a closer. -/
def Closer.parts : Closer → Nat × Nat
  | .order n => (0, n.val) | .schedule n => (1, n.val) | .mark i => (2, i.val) | .clockStop => (3, 0)
  | .reset => (4, 0)
/-- R184: slot or input in bits 0 to 5, type in bits 13 to 15, 7 there for absent. -/
def closerWord : Option Closer → Word
  | none => num (8192 * 7)
  | some c => num (c.parts.2 + 8192 * c.parts.1)
/-- R184: the flags word. -/
def TakeFlags.word (f : TakeFlags) : Word :=
  flag f.suspect + 2 * flag f.jammed + 4 * flag f.clockUnlocked + 8 * flag f.rateChanged + 16 * flag f.marksOverflow
/-- A set of groups in bits 0 to 7 of a word. -/
def groupWord (g : GroupSet) : Word := g.setWidth 16

/-- R184: a report kind's code, subject and eight detail words. -/
def ReportBody.fields : ReportBody → Word × Word × List Word
  | .clockState prev new cause hv =>
    (0x01, 0, [prev.code, new.code, cause.code, optSigned16 hv, 0, 0, 0, 0])
  | .clockStepped step error cut => (0x02, 0, signed32 step ++ signed32 error ++ wide32 cut ++ [0, 0])
  | .portApplied port outcome cause anchor width =>
    (0x10, num port.val, [outcome.code, cause.code] ++ wide32 anchor ++ [num width, 0, 0, 0])
  | .deviceState d prev new reason strikes offset extra =>
    (0x20, num d.val, [deviceStateCode prev, deviceStateCode new, reason.code, num strikes] ++ optSigned32 offset ++
      wide32 extra)
  | .drift d offset threshold estimate policy wanted =>
    (0x21, num d.val, signed32 offset ++ [num threshold, optSigned16 estimate, policy.code, flag wanted, 0, 0])
  | .fault d offset l state =>
    (0x22, num d.val, signed32 offset ++ [num l.hh, num l.mm, num l.ss, num l.ff, state.code, 0])
  | .jamResult output origin cause attempts ok failed blind =>
    (0x30, num output.val, [origin.code, (match origin with | .auto => 0xFFFF | .order n _ _ _ => num n.val),
      cause.code, num attempts, ok, failed, blind, 0])
  | .mark source kind placed stored silent =>
    (0x40, (match source with | .inject => 0xFFFF | .input i => num i.val),
      [kind, groupWord placed, groupWord stored, num silent, 0, 0, 0, 0])
  | .markStray i kind target => (0x41, num i.val, [kind, num target, 0, 0, 0, 0, 0, 0])
  | .takeOpened g number tag opener participants flags count =>
    (0x42, num g.val, [num number] ++ wide32 tag ++ [opener.word, participants, flags.word] ++ num32 count)
  | .takeClosed g number tag closer flags suspects total stored =>
    (0x43, num g.val, [num number] ++ wide32 tag ++ [closerWord (some closer), flags.word, suspects, num total,
      num stored])
  | .slotLost n cause held found kind check due fired missed =>
    (0x50, num n.val, [(cause.code <<< 8) ||| (held &&& 0xFF), found, kind, check] ++ wide32 due ++
      [num fired, num missed])
  | .logGap gap dropped => (0x7F, 0, [num gap, num dropped, 0, 0, 0, 0, 0, 0])

/-- R184: the sixteen words of a report record with its sequence number. -/
def reportWords (sequence : Word) (r : Report) : List Word :=
  [r.body.fields.1, sequence] ++ wide32 r.position.frame ++ num32 r.position.tick ++
    [r.body.fields.2.1, flag r.urgent] ++ r.body.fields.2.2

/-! ## 10.7 The time word -/

/-- R56: the sync value. -/
def syncValue : BitVec 12 := 0x9D3
/-- The sync value's bits 0 to 11, bit 0 first. -/
def syncBits : List Bool := (List.range 12).map fun i => syncValue.getLsbD i

/-- Byte k of a time word (R56). -/
def wordByte (w : BitVec 64) (k : Nat) : Byte := w.extractLsb' (8 * k) 8

/-- The sum of the first n bytes of a time word, modulo 256. -/
def byteSum (w : BitVec 64) : Nat → Byte
  | 0 => 0
  | n + 1 => byteSum w n + wordByte w n

/-- R56, 10.7: the fields of a time word below its check byte. -/
def wordBody (l : Label) (rate : Nat) (jam : Bool) (user take : Byte) : BitVec 56 :=
  take ++ user ++ BitVec.ofBool jam ++ BitVec.ofNat 4 rate ++ BitVec.ofNat 5 l.hh ++ BitVec.ofNat 6 l.mm ++
    BitVec.ofNat 6 l.ss ++ BitVec.ofNat 6 l.ff ++ syncValue

/-- R56: a whole time word; the check byte is 255 less the sum of bytes 0 to 6 modulo 256. -/
def composeWord (l : Label) (rate : Nat) (jam : Bool) (user take : Byte) : BitVec 64 :=
  let body := wordBody l rate jam user take
  (255#8 - byteSum (body.setWidth 64) 7) ++ body

/-- The label of a received word (R186). -/
def wordLabel (w : BitVec 64) : Label :=
  { ff := (w.extractLsb' 12 6).toNat, ss := (w.extractLsb' 18 6).toNat, mm := (w.extractLsb' 24 6).toNat
    hh := (w.extractLsb' 30 5).toNat }
/-- The rate code of a received word. -/
def wordRate (w : BitVec 64) : Nat := (w.extractLsb' 35 4).toNat
/-- The jam flag of a received word. -/
def wordJam (w : BitVec 64) : Bool := w.getLsbD 39

/-- R186: what a received word hands on: the values of its fields. -/
structure TimeWord where
  label : Label
  rate : Nat
  jam : Bool
  user : Byte
  take : Byte
deriving DecidableEq, Repr

/-- R186: a received word's fields, read where the layout of 10.7 has them. -/
def readWord (w : BitVec 64) : TimeWord :=
  { label := wordLabel w, rate := wordRate w, jam := wordJam w, user := wordByte w 5, take := wordByte w 6 }

/-- R79: the tests of a complete word. -/
def wordValid (w : BitVec 64) : Bool :=
  (w.extractLsb' 0 12 == syncValue) && (byteSum w 8 == 255) && decide (wordRate w ≤ 10) &&
    labelValid (wordRate w) (wordLabel w)

/-- The 64 bits of a word from its received bits, bit 0 first. -/
def wordOfBits (bits : List Bool) : BitVec 64 := BitVec.ofNat 64 (bits.foldr (fun b n => b.toNat + 2 * n) 0)

end Sys2Proof.Machine
end

