-- ==== Sys2Proof/Machine/Ops.lean ====
section
/-! DEFINITION. The operations every block shares: where each item is written, picture positions, the handing of reports
and completions to the Report Writer (R174), changes of clock state (R22), and the notices the Take Table takes
(R139 to R142). -/

namespace Sys2Proof.Machine

/-! ## Sets of devices and groups -/

/-- Device d is in the set. -/
def inSet (x : DeviceSet) (d : DeviceId) : Bool := x.getLsbD d.val
/-- The set of one device. -/
def single (d : DeviceId) : DeviceSet := 1#16 <<< d.val
/-- The set with a device added. -/
def addTo (x : DeviceSet) (d : DeviceId) : DeviceSet := x ||| single d
/-- The set with a device removed. -/
def dropFrom (x : DeviceSet) (d : DeviceId) : DeviceSet := x &&& ~~~ single d
/-- The set of one group. -/
def singleGroup (g : GroupId) : GroupSet := 1#8 <<< g.val

/-- The set of the devices that satisfy a test. -/
def deviceSet (p : DeviceId → Bool) : DeviceSet :=
  (List.finRange 16).foldl (fun x d => if p d then addTo x d else x) 0

/-- Applies a change for each number below n, in rising order. -/
def forEach (n : Nat) (f : Fin n → State → State) (s : State) : State :=
  (List.finRange n).foldl (fun s i => f i s) s

/-- Adds one to a count that saturates at 65,535. -/
def bump (n : Nat) : Nat := min 65535 (n + 1)

namespace State

/-! ## Where each item is written -/

def setClock (s : State) (c : Clock) : State := { s with clock := c }
def setPort (s : State) (i : PortId) (p : Port) : State := { s with ports := s.ports.set i p }
def setLine (s : State) (i : LineId) (l : Line) : State := { s with lines := s.lines.set i l }
def setOutput (s : State) (o : OutputId) (x : Output) : State := { s with outputs := s.outputs.set o x }
def setInput (s : State) (i : InputId) (x : Input) : State := { s with inputs := s.inputs.set i x }
def setDevice (s : State) (d : DeviceId) (x : Option Device) : State := { s with devices := s.devices.set d x }
def setRun (s : State) (o : OutputId) (r : Option Run) : State := { s with runs := s.runs.set o r }
def setMark (s : State) (i : MarkId) (m : MarkInput) : State := { s with marks := s.marks.set i m }
def setGroup (s : State) (g : GroupId) (x : Group) : State := { s with groups := s.groups.set g x }
def setSchedule (s : State) (es : List Entry) : State := { s with schedule := es }
def setScanner (s : State) (x : Scanner) : State := { s with scanner := x }
def setWriter (s : State) (w : Writer) : State := { s with writer := w }
def setPins (s : State) (p : Pins) : State := { s with pins := p }
def setHold (s : State) (h : Hold) : State := { s with hold := h }
def setOwed (s : State) (x : Owed) : State := { s with owed := x }

/-! ## Picture time as the other blocks read it -/

/-- The clock runs: it is in any state but STOPPED (R4). -/
def running (s : State) : Bool := decide (s.clock.state ≠ .stopped)
/-- M of the master rate (R3). -/
def ticks (s : State) : Nat := rateTicks s.clock.rate
/-- K of the master rate (R3). -/
def span (s : State) : Nat := rateSpan s.clock.rate
/-- The current frame. -/
def frame (s : State) : FrameNo := s.clock.frame
/-- R1: the picture position of the current reference tick: the earlier of two picture ticks, the one held over for an
inserted tick, the frozen one while STOPPED. -/
def here (s : State) : Position :=
  { frame := s.clock.frame, tick := if s.clock.phase = .late then s.clock.tick - 1 else s.clock.tick }

end State

/-! ## The Report Writer's door (R174) -/

/-- How many reports wait among queue items. -/
def reportsWaiting : List QueueItem → Nat
  | [] => 0
  | .report _ :: rest => reportsWaiting rest + 1
  | .completion _ :: rest => reportsWaiting rest

namespace State

/-- R176: a dropped report counts in the dropped total, written to the header while the store is open, and in the gap
count. -/
def countDrop (s : State) : State :=
  let s' := s.setWriter { s.writer with dropped := bump s.writer.dropped, gap := bump s.writer.gap }
  if s.bus.ready then s'.putWord Address.droppedTotal (num s'.writer.dropped) else s'

/-- R174: a report is accepted: it takes an acceptance number and joins the queue, or is dropped when 64 wait. -/
def acceptReport (s : State) (r : Report) : State :=
  let w := { s.writer with accepted := s.writer.accepted + 1 }
  if reportsWaiting w.queue < 64 then s.setWriter { w with queue := w.queue ++ [.report r] }
  else (s.setWriter w).countDrop

/-- R177: a completion joins the queue with the acceptance count as its fence. -/
def acceptCompletion (s : State) (c : Completion) : State :=
  s.setWriter { s.writer with queue := s.writer.queue ++ [.completion { c with fence := s.writer.accepted }] }

/-- R174: a report handed to the writer: accepted while READY is 1, else kept, up to 64 of them. -/
def handReport (s : State) (r : Report) : State :=
  if s.bus.ready then s.acceptReport r
  else if reportsWaiting s.writer.kept < 64 then
    s.setWriter { s.writer with kept := s.writer.kept ++ [.report r] }
  else s.countDrop

/-- R174, R177: a completion handed to the writer. -/
def handCompletion (s : State) (c : Completion) : State :=
  if s.bus.ready then s.acceptCompletion c
  else s.setWriter { s.writer with kept := s.writer.kept ++ [.completion c] }

/-- A report positioned at the current reference tick. -/
def report (s : State) (urgent : Bool) (body : ReportBody) : State :=
  s.handReport { position := s.here, urgent := urgent, body := body }

end State

/-- R183: a short reply of zeros. -/
def Reply.zero : Reply := { w29 := 0, w30 := 0, w31 := 0 }
/-- R183: a two-word number in words 29 and 30, and word 31. -/
def Reply.wideThen (x : BitVec 32) (w : Word) : Reply := { w29 := lo16 x, w30 := hi16 x, w31 := w }

/-! ## Takes as the other blocks see them -/

/-- R128: the take is open. -/
def Take.isOpen (t : Take) : Bool := t.closed.isNone
/-- R132: the participant list holds the device id. -/
def Take.lists (t : Take) (d : DeviceId) : Bool := t.participants.any fun p => p.device == d
/-- The participant list holds one of the devices. -/
def Take.listsAny (t : Take) (x : DeviceSet) : Bool := t.participants.any fun p => inSet x p.device
/-- R128: the group's open take. -/
def Group.current (g : Group) : Option Take := g.take.filter Take.isOpen
/-- R128: the group is OPEN. -/
def Group.isOpen (g : Group) : Bool := g.current.isSome

/-- Changes the group's open take where a test holds; a closed take is never changed (R129, R138). -/
def Group.mapOpen (p : Take → Bool) (f : Take → Take) (g : Group) : Group :=
  match g.current with
  | some t => if p t then { g with take := some (f t) } else g
  | none => g

namespace State

/-- R138: a notice reaches the takes of the groups that are OPEN. -/
def noticeTakes (s : State) (p : Take → Bool) (f : Take → Take) : State :=
  { s with groups := s.groups.map (Group.mapOpen p f) }

/-- R137: a take is open in some group. -/
def anyOpen (s : State) : Bool := (List.finRange 8).any fun g => s.groups[g].isOpen

/-- R137: the device is a participant of an open take. -/
def inOpenTake (s : State) (d : DeviceId) : Bool :=
  (List.finRange 8).any fun g => s.groups[g].current.any fun t => t.lists d

/-- R139: the notice of a device entering ADRIFT or SILENT. -/
def suspectNotice (s : State) (d : DeviceId) : State :=
  s.noticeTakes (fun t => t.lists d)
    fun t => { t with flags := { t.flags with suspect := true }, suspects := addTo t.suspects d }

/-- R140: the jammed notice of a burst begun. -/
def jammedNotice (s : State) (x : DeviceSet) : State :=
  s.noticeTakes (fun t => t.listsAny x) fun t => { t with flags := { t.flags with jammed := true } }

/-- R141: the notice that the clock has left LOCKED. -/
def unlockedNotice (s : State) : State :=
  s.noticeTakes (fun _ => true) fun t => { t with flags := { t.flags with clockUnlocked := true } }

/-- R142: the notice that a rate port's setting has been applied. -/
def rateNotice (s : State) : State :=
  s.noticeTakes (fun _ => true) fun t => { t with flags := { t.flags with rateChanged := true } }

/-! ## Changes of state that others watch -/

/-- R22: which changes of clock state are urgent. -/
def clockUrgent (previous new : ClockState) : Bool :=
  match new with
  | .holdover | .stopped => true
  | .freeRun => decide (previous ≠ .stopped ∧ previous ≠ .freeRun)
  | .locking | .locked => false

/-- R22, R141, R167: a change of clock state latches the CLOCK reason, owes the takes a notice when it leaves LOCKED, and
writes CLOCK_STATE at the current reference tick. -/
def changeClock (s : State) (new : ClockState) (cause : ClockCause) (holdover : Option Int) : State :=
  let previous := s.clock.state
  let s := (s.setClock { s.clock with state := new }).setWriter { s.writer with clock := true }
  let s := s.setOwed { s.owed with unlocked := s.owed.unlocked || decide (previous = .locked) }
  s.report (clockUrgent previous new) (.clockState previous new cause holdover)

/-- R22, R141: the Take Table takes the notice that the clock has left LOCKED, when one is owed. -/
def giveUnlocked (s : State) : State :=
  if s.owed.unlocked then s.unlockedNotice.setOwed { s.owed with unlocked := false } else s

/-- R99, R98: a device's record changes, DEVICE_STATE is written with the strikes after the change, and an entry into
ADRIFT or SILENT is told to the Take Table. -/
def moveDevice (s : State) (d : DeviceId) (previous : DeviceState) (r : Device) (reason : DeviceReason)
    (offset : Option Int) (extra : BitVec 32) : State :=
  let s := (s.setDevice d (some r)).report false
    (.deviceState d (some previous) (some r.state) reason r.strikes offset extra)
  if r.state = .adrift ∨ r.state = .silent then s.suspectNotice d else s

end State

end Sys2Proof.Machine
end

