-- ==== Sys2Proof/Machine/Jam.lean ====
section
/-! DEFINITION. The Jam Controller (06_jamming): listener sets, runs, their attempts and ends, leave notices, and the
automatic check. -/

namespace Sys2Proof.Machine

namespace State

/-- R63: an output accepts a burst request, which then waits for a word boundary after this frame's. None is a
decline. -/
def requestBurst (s : State) (o : OutputId) : Option State :=
  let x := s.outputs[o]
  if s.running ∧ x.settings.mode ≠ .off ∧ x.state ≠ .waking ∧ x.state ≠ .bursting ∧ x.request = none then
    some (s.setOutput o { x with request := some s.frame })
  else none

/-- R102: the device's jam output is this output. -/
def listensTo (s : State) (o : OutputId) (d : DeviceId) : Bool :=
  s.devices[d].any fun x => x.settings.jamOutput == some o

/-- R102: every enrolled device whose jam output is the output. -/
def listeners (s : State) (o : OutputId) : DeviceSet := deviceSet fun d => s.listensTo o d

/-- R102: the listeners that name no input. -/
def blindListeners (s : State) (o : OutputId) : DeviceSet :=
  deviceSet fun d => s.listensTo o d && s.devices[d].any fun x => x.settings.input.isNone

/-- R104: a run is created once its burst request is accepted. -/
def startRun (s : State) (o : OutputId) (origin : RunOrigin) : State :=
  s.setRun o (some { origin := origin, attempts := 1, phase := .requested, listeners := s.listeners o
                     waiting := s.listeners o &&& ~~~ s.blindListeners o, ok := 0, failed := 0
                     blind := s.blindListeners o, startFrame := s.frame })

/-- R116: the conditions of an automatic run. -/
def autoAllowed (s : State) (o : OutputId) : Bool :=
  s.running && s.runs[o].isNone && decide (s.outputs[o].settings.mode ≠ .off) &&
    ((List.finRange 16).any fun d => s.listensTo o d && s.devices[d].any fun x => x.jamWanted) &&
    !((List.finRange 16).any fun d => s.listensTo o d && s.inOpenTake d &&
        s.devices[d].any fun x => x.settings.policy == .deferInTake)

/-- R116: the automatic check of one output. -/
def autoCheck (o : OutputId) (s : State) : State :=
  if s.autoAllowed o then
    match s.requestBurst o with
    | some s' => s'.startRun o .auto
    | none => s
  else s

/-- R117: the check of every output, at a take's closing. -/
def autoCheckAll (s : State) : State := forEach 4 autoCheck s

/-- R117: the check of a frame boundary, made while a device has jam-wanted set. -/
def boundaryCheck (s : State) : State :=
  if (List.finRange 16).any fun d => s.devices[d].any fun x => x.jamWanted then s.autoCheckAll else s

/-- R117: the present frame boundary's check, made when it is still owed. -/
def checkOwed (s : State) : State :=
  if s.owed.check then (s.setOwed { s.owed with check := false }).boundaryCheck else s

/-- R110: a failed listener enters ADRIFT when it is JAMMING, and loses its jam-wanted flag either way. -/
def failListener (d : DeviceId) (s : State) : State :=
  match s.devices[d] with
  | none => s
  | some x =>
    if x.state = .jamming then
      s.moveDevice d .jamming
        { x with state := .adrift, validRun := 0, lastOffset := none, sinceWord := 0, jamWanted := false }
        .jamFailed none 0
    else s.setDevice d (some { x with jamWanted := false })

/-- R110: every listener still pending fails, in device id order. -/
def failWaiting (waiting : DeviceSet) (s : State) : State :=
  forEach 16 (fun d s => if inSet waiting d then failListener d s else s) s

/-- R111: the completion a run's end hands, for a single-shot JAM whose slot still waits for it. -/
def runCompletion (r : Run) (failed : DeviceSet) : Option Completion :=
  match r.origin with
  | .order slot false late true =>
    some { slot := slot, code := if late then .doneLate else .done, frame := r.startFrame, fired := 0, missed := 0
           reply := { w29 := r.ok, w30 := failed, w31 := r.blind }, record := none, fence := 0 }
  | _ => none

/-- R110, R111: the end of a run: its pending listeners fail, JAM_RESULT is written, a single-shot JAM completes, the
output is free and is checked for an automatic run. -/
def endRun (o : OutputId) (cause : RunCause) (s : State) : State :=
  match s.runs[o] with
  | none => s
  | some r =>
    let failed := r.failed ||| r.waiting
    let s := failWaiting r.waiting s
    let s := s.report (decide (failed ≠ 0)) (.jamResult o r.origin cause r.attempts r.ok failed r.blind)
    let s := match runCompletion r failed with
      | some c => s.handCompletion c
      | none => s
    autoCheck o (s.setRun o none)

/-- R105: a listener enters JAMMING (R106 gives the items that change); one already JAMMING stays. -/
def enterJamming (d : DeviceId) (s : State) : State :=
  match s.devices[d] with
  | none => s
  | some x =>
    if x.state = .jamming then s
    else s.moveDevice d x.state
      { x with state := .jamming, validRun := 0, windowCount := 0, lastOffset := none } .jamStart none 0

/-- R105: the burst begun notice. -/
def burstBegun (o : OutputId) (s : State) : State :=
  match s.runs[o] with
  | none => s
  | some r =>
    let s := s.setRun o (some { r with phase := .sending })
    let s := forEach 16 (fun d s => if inSet r.waiting d then enterJamming d s else s) s
    s.jammedNotice r.listeners

/-- R107: the burst end notice: the run ends when no listener is pending, else its windows open. -/
def burstEnd (o : OutputId) (s : State) : State :=
  match s.runs[o] with
  | none => s
  | some r =>
    if r.waiting = 0 then endRun o .complete s
    else s.setRun o (some { r with
      phase := .verifying (s.frame + BitVec.ofNat 32 s.outputs[o].settings.verify) })

/-- R112: the burst cut notice. -/
def burstCut (o : OutputId) (s : State) : State := endRun o .cut s

/-- R113: a device leaves the sets of a run. -/
def Run.without (r : Run) (d : DeviceId) : Run :=
  { r with listeners := dropFrom r.listeners d, waiting := dropFrom r.waiting d, ok := dropFrom r.ok d
           failed := dropFrom r.failed d, blind := dropFrom r.blind d }

/-- The run's windows are open (R101). -/
def Run.isVerifying (r : Run) : Bool :=
  match r.phase with
  | .verifying _ => true
  | _ => false

/-- R113: the leave notice at one output. -/
def leaveRun (d : DeviceId) (o : OutputId) (s : State) : State :=
  match s.runs[o] with
  | none => s
  | some r =>
    if inSet r.listeners d then
      let s := s.setRun o (some (Run.without r d))
      if Run.isVerifying r && inSet r.waiting d && decide ((Run.without r d).waiting = 0) then
        endRun o .complete s
      else s
    else s

/-- R113: the leave notice of a device. -/
def leaveNotice (d : DeviceId) (s : State) : State := forEach 4 (leaveRun d) s

/-- R108: a JAMMING listener's word, with its offset when it has one. -/
def jamWord (d : DeviceId) (offset : Option Int) (s : State) : State :=
  match s.devices[d], offset with
  | some x, some v =>
    match x.settings.jamOutput with
    | none => s
    | some o =>
      match s.runs[o] with
      | none => s
      | some r =>
        if Run.isVerifying r && inSet r.waiting d && decide (v.natAbs ≤ x.settings.soft) then
          let s := s.setRun o (some { r with waiting := dropFrom r.waiting d, ok := addTo r.ok d })
          let s := s.moveDevice d .jamming
            { x with state := .tracking, strikes := 0, validRun := 0, windowOffset := v, windowFrame := s.here.frame
                     windowCount := 0, lastOffset := some v, sinceWord := 0, jamWanted := false }
            .verified (some v) 0
          if dropFrom r.waiting d = 0 then endRun o .complete s else s
        else s
  | _, _ => s

/-- R109: the run on this output has reached its expiry frame. -/
def expiryDue (s : State) (o : OutputId) : Bool :=
  s.running && s.runs[o].any fun r => r.phase == .verifying s.frame

/-- R109: the expiry: another burst, or the end of the run at its attempt limit. The output accepts the request in
every state R109 describes; a decline would end the run. -/
def verifyExpiry (o : OutputId) (s : State) : State :=
  match s.runs[o] with
  | none => s
  | some r =>
    if r.attempts < s.outputs[o].settings.attempts then
      match s.requestBurst o with
      | some s' => s'.setRun o (some { r with attempts := r.attempts + 1, phase := .requested })
      | none => endRun o .complete s
    else endRun o .complete s

end State

end Sys2Proof.Machine
end

