-- ==== Sys2Proof/Machine/Takes.lean ====
section
/-! DEFINITION. The Take Table and the mark inputs (07_marks_and_takes): openings, marks placed, closings, and what an edge
on a MARK pin becomes. -/

namespace Sys2Proof.Machine

/-- R129: no flag set. -/
def TakeFlags.none : TakeFlags :=
  { suspect := false, jammed := false, clockUnlocked := false, rateChanged := false, marksOverflow := false }

/-- R133: the take's marks list has room. -/
def Take.hasRoom (t : Take) : Bool := decide (t.marks.length < 8)

/-- R133: a mark placed in a take: counted, and stored while the list has room. -/
def Take.place (m : Mark) (t : Take) : Take :=
  if t.hasRoom then { t with markTotal := bump t.markTotal, marks := t.marks ++ [m] }
  else { t with markTotal := bump t.markTotal, flags := { t.flags with marksOverflow := true } }

/-- R130: the set of a take's participants. -/
def Take.participantSet (t : Take) : DeviceSet := deviceSet t.lists

namespace State

/-- R132: the participants of a take opening now: every enrolled member of the group, in device id order. -/
def snapshot (s : State) (g : GroupId) : List Participant :=
  (List.finRange 16).filterMap fun d =>
    match s.devices[d] with
    | some x => if x.settings.groups.getLsbD g.val then
        some { device := d, state := x.state, lastOffset := x.lastOffset } else none
    | none => none

/-- R47: the label count of the current frame. -/
def labelCountNow (s : State) : Nat := frameCount s.clock.startCount s.clock.rate s.frame

/-- R130: the take an opening makes: its number, tag and participants, CLOCK_UNLOCKED when the clock is not LOCKED
(R141), and the START mark of an opening by mark. -/
def newTake (s : State) (g : GroupId) (opener : Opener) (tag : BitVec 32) : Take :=
  let marks : List Mark := match opener with
    | .mark i => [{ source := .input i, kind := MarkKind.start, position := s.here }]
    | _ => []
  { number := (s.groups[g].counter + 1) % 65536, tag := tag, opener := opener, opened := s.here
    openCount := s.labelCountNow, participants := s.snapshot g, marks := marks, markTotal := marks.length
    flags := { TakeFlags.none with clockUnlocked := decide (s.clock.state ≠ .locked) }, suspects := 0
    closed := none }

/-- R130: a take opens in a group, and TAKE_OPENED is written. -/
def openTake (s : State) (g : GroupId) (opener : Opener) (tag : BitVec 32) : State :=
  let t := s.newTake g opener tag
  (s.setGroup g { s.groups[g] with counter := t.number, take := some t }).report false
    (.takeOpened g t.number t.tag t.opener t.participantSet t.flags t.openCount)

/-- R133: places a mark in a group's open take. -/
def placeMark (s : State) (g : GroupId) (m : Mark) : State :=
  s.setGroup g (s.groups[g].mapOpen (fun _ => true) (Take.place m))

/-- R135: the take a closing leaves: its close position and closer set, the rest as it stands. -/
def closedTake (s : State) (closer : Closer) (t : Take) : Take := { t with closed := some (s.here, closer) }

/-- R135: the summary TAKE_CLOSED carries. -/
def takeClosedBody (g : GroupId) (closer : Closer) (t : Take) : ReportBody :=
  .takeClosed g t.number t.tag closer t.flags t.suspects t.markTotal t.marks.length

/-- R135: closes a group's open take, writes TAKE_CLOSED, and has every output checked for an automatic run. -/
def closeTake (s : State) (g : GroupId) (closer : Closer) : State :=
  match s.groups[g].current with
  | none => s
  | some t =>
    let s := s.setGroup g { s.groups[g] with take := some (s.closedTake closer t) }
    (s.report false (takeClosedBody g closer t)).autoCheckAll

/-! ## Mark inputs -/

/-- R121: the latch is FIRED. -/
def latchFired (s : State) (i : MarkId) : Bool := s.marks[i].reArm.isSome

/-- R121: the re-arm frame of a FIRED latch has come. -/
def reArmDue (s : State) (i : MarkId) : Bool := s.running && decide (s.marks[i].reArm = some s.frame)

/-- R121: the latch becomes ARMED. -/
def reArm (i : MarkId) (s : State) : State := s.setMark i { s.marks[i] with reArm := none }

/-- R120: the window is on and holds the frame, or it is off. Frames compare as plain numbers. -/
def MarkInput.inWindow (m : MarkInput) (f : FrameNo) : Bool :=
  decide (m.windowLimit.toNat < m.windowBase.toNat) ||
    decide (m.windowBase.toNat ≤ f.toNat ∧ f.toNat ≤ m.windowLimit.toNat)

/-- R120: the edge setting takes an edge of this direction. -/
def Edge.takes : Edge → Bool → Bool
  | .rise, rise => rise
  | .fall, rise => !rise
  | .both, _ => true

/-- R125: a mark placed in takes is silent, or writes MARK with the silent count. -/
def quietCount (s : State) (i : MarkId) (kind : Word) (placed stored : GroupSet) : State :=
  let m := s.marks[i]
  if 0 < m.remaining then
    s.setMark i { m with remaining := m.remaining - 1, silent := m.silent + 1 }
  else
    (s.report false (.mark (.input i) kind placed stored m.silent)).setMark i
      { m with remaining := m.quiet, silent := 0 }

/-- R124: a stray mark. -/
def strayMark (s : State) (i : MarkId) (kind : Word) (target : Nat) : State :=
  s.report false (.markStray i kind target)

/-- The group as a set when its open take has room for one more mark (R133). -/
def storedSet (s : State) (g : GroupId) : GroupSet :=
  if s.groups[g].current.any Take.hasRoom then singleGroup g else 0

/-- R122, R125: a mark placed in its group's open take and counted for reporting. -/
def landMark (s : State) (i : MarkId) (g : GroupId) (kind : Word) : State :=
  (s.placeMark g { source := .input i, kind := kind, position := s.here }).quietCount i kind (singleGroup g)
    (s.storedSet g)

/-- R122: a mark that lands in an open take or is stray. -/
def groupMark (s : State) (i : MarkId) (g : GroupId) (kind : Word) : State :=
  if s.groups[g].isOpen then s.landMark i g kind else s.strayMark i kind g.val

/-- The groups whose open takes satisfy a test, as a set. -/
def groupsWhere (s : State) (p : Take → Bool) : GroupSet :=
  (List.finRange 8).foldl (fun x g => if s.groups[g].current.any p then x ||| singleGroup g else x) 0

/-- R123: a mark on a TALLY input is placed in every open take that lists the device. -/
def tallyMark (s : State) (i : MarkId) (d : DeviceId) (kind : Word) : State :=
  let placed := s.groupsWhere fun t => t.lists d
  let stored := s.groupsWhere fun t => t.lists d && t.hasRoom
  if placed = 0 then s.strayMark i kind d.val
  else
    (s.noticeTakes (fun t => t.lists d)
      (Take.place { source := .input i, kind := kind, position := s.here })).quietCount i kind placed stored

/-- R122, R123: what a captured mark becomes, by the input's role and its group's state. -/
def captured (s : State) (i : MarkId) (rise : Bool) : State :=
  match s.marks[i].role with
  | .disabled => s
  | .takeStart g =>
    if s.groups[g].isOpen then s.landMark i g MarkKind.restart
    else s.openTake g (.mark i) s.groups[g].nextTag
  | .takeEnd g =>
    if s.groups[g].isOpen then
      (s.placeMark g { source := .input i, kind := MarkKind.takeEnd, position := s.here }).closeTake g (.mark i)
    else s.strayMark i MarkKind.takeEnd g.val
  | .clap g => s.groupMark i g MarkKind.clap
  | .generic g => s.groupMark i g MarkKind.generic
  | .tally d => s.tallyMark i d (if rise then MarkKind.rollOn else MarkKind.rollOff)

/-- R121: a captured edge fires the latch: it re-arms at frame Fe + h + 1. -/
def fireLatch (s : State) (i : MarkId) : State :=
  let m := s.marks[i]
  s.setMark i { m with reArm := some (s.here.frame + BitVec.ofNat 32 (m.holdoff + 1)) }

/-- R120: the judging of a qualified edge. -/
def markEdge (i : MarkId) (rise : Bool) (s : State) : State :=
  let m := s.marks[i]
  if m.role = .disabled then s
  else if !s.running then s
  else if !Edge.takes m.edge rise then s
  else if s.latchFired i then s
  else if !MarkInput.inWindow m s.here.frame then s.setMark i { m with ignored := bump m.ignored }
  else (s.fireLatch i).captured i rise

end State

end Sys2Proof.Machine
end

