-- ==== Sys2Proof/Machine/Roster.lean ====
section
/-! DEFINITION. The Device Roster (05, R81 to R100): how a valid word moves a device's record, and what frame boundaries,
starts and soft resets do to it. -/

namespace Sys2Proof.Machine

/-- R81: a record as DEVICE_ENROL makes it. -/
def Device.enrolled (x : DeviceSettings) : Device :=
  { settings := x, state := .absent, strikes := 0, lastOffset := none, validRun := 0, sinceWord := 0, drift := none
    windowOffset := 0, windowFrame := 0, windowCount := 0, capture := none, breaches := 0, jamWanted := false }

/-- R90: the record on an entry to TRACKING by a word with this offset in this frame. -/
def Device.track (x : Device) (v : Int) (f : FrameNo) : Device :=
  { x with state := .tracking, strikes := 0, validRun := 0, windowOffset := v, windowFrame := f, windowCount := 0
           lastOffset := some v }

/-- R89, R91: the record on a breach that moves it into ADRIFT. -/
def Device.breach (x : Device) (v : Int) : Device :=
  { x with state := .adrift, validRun := 0, windowCount := 0, lastOffset := some v }

/-- R92: the offset lies beyond S, within H, in a direction the filter allows. -/
def Device.isStrike (x : Device) (v : Int) : Bool :=
  decide (x.settings.soft < v.natAbs ∧ v.natAbs ≤ x.settings.hard) &&
    (match x.settings.filter with
     | .lead => decide (v < 0)
     | .lag => decide (0 < v)
     | .both => true)

/-- R93: a valid non-jump word counts in the drift window, and completes it at the Wd-th. -/
def Device.countWindow (x : Device) (v : Int) (f : FrameNo) : Device :=
  if x.windowCount + 1 < x.settings.driftWindow then { x with windowCount := x.windowCount + 1 }
  else
    { x with windowCount := 0, windowOffset := v, windowFrame := f
             drift := (driftEstimate x.windowOffset x.windowFrame v f).orElse fun _ => x.drift }

/-- R96: the states that silence ends. -/
def DeviceState.heard : DeviceState → Bool
  | .acquiring | .tracking | .adrift | .mismatch => true
  | .absent | .silent | .jamming => false

/-- R96: a frame boundary counts toward silence, save in JAMMING. -/
def Device.countSilence (x : Device) : Device :=
  if x.state = .jamming then x else { x with sinceWord := bump x.sinceWord }

/-- R97: the items every enrolled record takes at the START instant. -/
def Device.restart (x : Device) : Device :=
  { x with state := .absent, lastOffset := none, validRun := 0, strikes := 0, windowCount := 0, sinceWord := 0
           windowOffset := 0, windowFrame := 0 }

/-- R100, R115: a record at a soft reset. -/
def Device.softReset (x : Device) : Device :=
  if x.state = .jamming then
    { x with state := .acquiring, validRun := 0, lastOffset := none, sinceWord := 0, jamWanted := false }
  else { x with jamWanted := false }

namespace State

/-- R94: a hard breach makes a fault capture with an urgent FAULT report, or counts one breach more. -/
def hardBreach (d : DeviceId) (v : Int) (l : Label) (s : State) : State :=
  match s.devices[d] with
  | none => s
  | some x =>
    match x.capture with
    | some _ => s.setDevice d (some { x with breaches := bump x.breaches })
    | none =>
      (s.setDevice d (some { x with capture := some { position := s.here, offset := v, label := l } })).report true
        (.fault d v l x.state)

/-- R89, R91: a hard breach that moves the device into ADRIFT: DEVICE_STATE first, then the capture. -/
def enterAdrift (d : DeviceId) (x : Device) (v : Int) (l : Label) (s : State) : State :=
  hardBreach d v l (s.moveDevice d x.state (x.breach v) .breach (some v) 0)

/-- R117: the automatic check that a jam-wanted notice brings. -/
def wantedNotice (x : Device) (s : State) : State :=
  match x.settings.jamOutput with
  | some o => autoCheck o s
  | none => s

/-- R92: the record x is judged for a strike by its word; at T strikes DRIFT is written and the policy applied. -/
def judgeStrike (d : DeviceId) (x : Device) (v : Int) (s : State) : State :=
  if x.isStrike v then
    if x.strikes + 1 < x.settings.threshold then s.setDevice d (some { x with strikes := x.strikes + 1 })
    else
      let wants := x.settings.policy != .none
      let y := { x with strikes := 0, jamWanted := x.jamWanted || wants }
      let s := (s.setDevice d (some y)).report false
        (.drift d v x.settings.threshold x.drift x.settings.policy y.jamWanted)
      if wants then wantedNotice y s else s
  else s.setDevice d (some x)

/-- R89: a word at the master rate in ACQUIRING. -/
def acquiringWord (d : DeviceId) (x : Device) (v : Int) (l : Label) (s : State) : State :=
  let run := if isJump s.clock.rate x.lastOffset v then 1 else x.validRun + 1
  if run < 3 then s.setDevice d (some { x with validRun := run, lastOffset := some v })
  else if v.natAbs ≤ x.settings.hard then
    s.moveDevice d x.state (x.track v s.here.frame) .acquired (some v) 0
  else enterAdrift d x v l s

/-- R91: a word at the master rate in TRACKING. -/
def trackingWord (d : DeviceId) (x : Device) (v : Int) (l : Label) (s : State) : State :=
  if x.settings.hard < v.natAbs then enterAdrift d x v l s
  else if isJump s.clock.rate x.lastOffset v then
    let y := { x with windowOffset := v, windowFrame := s.here.frame, windowCount := 0, lastOffset := some v }
    let s := s.moveDevice d .tracking y .jump (some v) (BitVec.ofInt 32 (x.lastOffset.getD 0))
    judgeStrike d y v s
  else judgeStrike d { x.countWindow v s.here.frame with lastOffset := some v } v s

/-- R95: a word at the master rate in ADRIFT. -/
def adriftWord (d : DeviceId) (x : Device) (v : Int) (l : Label) (s : State) : State :=
  if x.settings.hard < v.natAbs then
    hardBreach d v l (s.setDevice d (some { x with validRun := 0, lastOffset := some v }))
  else if x.settings.soft < v.natAbs then s.setDevice d (some { x with validRun := 0, lastOffset := some v })
  else if x.validRun + 1 < 3 then
    s.setDevice d (some { x with validRun := x.validRun + 1, lastOffset := some v })
  else s.moveDevice d x.state (x.track v s.here.frame) .recovered (some v) 0

/-- R87: a word at another rate code, outside JAMMING. -/
def otherRate (d : DeviceId) (x : Device) (rate : Nat) (s : State) : State :=
  if x.state = .mismatch then s.setDevice d (some x)
  else s.moveDevice d x.state { x with state := .mismatch, lastOffset := none, validRun := 0, windowCount := 0 }
    .rate none (BitVec.ofNat 32 rate)

/-- R88: a word at the master rate in ABSENT, SILENT or MISMATCH. -/
def firstWord (d : DeviceId) (x : Device) (v : Int) (s : State) : State :=
  s.moveDevice d x.state { x with state := .acquiring, validRun := 1, lastOffset := some v } .firstWord (some v) 0

/-- R80, R86: a valid word handed to an enrolled record, with the line delay in force at its arrival. No rule of the roster or of
the Jam Controller reads its jam flag (R108), its user byte or its take byte. Frames since last valid
word becomes 0 by step 2 of R86, also for a word that R108 sets aside in JAMMING (entry 30, the model's choice: R106 says
that the count holds where it stands). -/
def rosterWord (d : DeviceId) (w : TimeWord) (delay : Nat) (s : State) : State :=
  match s.devices[d] with
  | none => s
  | some x0 =>
    if !s.running then s
    else
      let x := { x0 with sinceWord := 0 }
      let v := wordOffset s.clock.startCount s.clock.rate w.label s.here delay
      let same := w.rate == s.clock.rate
      match x.state with
      | .jamming => jamWord d (if same then some v else none) (s.setDevice d (some x))
      | .absent | .silent | .mismatch => if same then firstWord d x v s else otherRate d x w.rate s
      | .acquiring => if same then acquiringWord d x v w.label s else otherRate d x w.rate s
      | .tracking => if same then trackingWord d x v w.label s else otherRate d x w.rate s
      | .adrift => if same then adriftWord d x v w.label s else otherRate d x w.rate s

/-- R96: every enrolled device counts a frame boundary. -/
def countSilence (s : State) : State := { s with devices := s.devices.map fun x => x.map Device.countSilence }

/-- R96: the device's count has passed its silence limit. -/
def silent (s : State) (d : DeviceId) : Bool :=
  s.devices[d].any fun x => x.state.heard && decide (x.settings.silence < x.sinceWord)

/-- R96: the present frame boundary counts toward silence, when its count is still owed. -/
def counted (s : State) : State := if s.owed.count then s.countSilence.setOwed { s.owed with count := false } else s

/-- R96: once the boundary has counted, the device is the next to fall silent: devices do so in device id order. -/
def silenceDue (s : State) (d : DeviceId) : Bool :=
  s.counted.silent d && !((List.finRange 16).any fun e => decide (e < d) && s.counted.silent e)

/-- R96: a device enters SILENT, once the boundary has counted. -/
def enterSilent (d : DeviceId) (s : State) : State :=
  let s := s.counted
  match s.devices[d] with
  | none => s
  | some x => s.moveDevice d x.state { x with state := .silent, lastOffset := none, validRun := 0, windowCount := 0 }
      .silence none 0

/-- R96: every device whose count has passed its silence limit enters SILENT, in device id order. -/
def closeSilences (s : State) : State := forEach 16 (fun d s => if s.silent d then enterSilent d s else s) s

/-- R86, R96: what another event finds of the roster at a frame boundary's instant. Before the boundary has counted it comes
first, and finds the records as they stand; after that it finds the boundary's silence step made. -/
def rosterFirst (s : State) : State := if s.owed.count then s else s.closeSilences

/-- R97: a device at the START instant. -/
def startDevice (d : DeviceId) (s : State) : State :=
  match s.devices[d] with
  | none => s
  | some x =>
    if x.state = .absent then s.setDevice d (some x.restart)
    else s.moveDevice d x.state x.restart .start none 0

end State

end Sys2Proof.Machine
end

