-- ==== Sys2Proof/Machine/Inputs.lean ====
section
/-! DEFINITION. The time word inputs (05, R74 to R80): the decoding of level changes into bits and words, and the arrival
of a word. -/

namespace Sys2Proof.Machine

/-- R76: the classes of an interval that a level change ends; 23,000 without a change is line quiet instead. -/
inductive Interval where
  | tooShort | half | whole
deriving DecidableEq, Repr

/-- R76: the class of an interval in reference ticks. -/
def interval (n : Nat) : Interval := if n < 5000 then .tooShort else if n < 12000 then .half else .whole

/-- R76: line quiet. -/
def quietTicks : Nat := 23000

/-- R75: the receiver as enabling and disabling leave it, in HUNT or IDLE. -/
def Input.restart (x : Input) (r : ReceiverState) : Input :=
  { x with receiver := r, aligned := false, half := none, hunt := [], bits := [], synced := false, lastBit := none
           awaitStart := false, following := [] }

/-- R79: one bad word more, when the input has a bound device. -/
def Input.countBad (x : Input) : Input := if x.bound.isSome then { x with badWords := bump x.badWords } else x

/-- R76, R77: a line error or line quiet: alignment is lost, and a word being received is a broken word when its sync
has been received. -/
def Input.lose (x : Input) : Input :=
  let y := if x.receiver = .word ∧ x.synced then x.countBad else x
  y.restart .hunt

/-- R77: a bit decoded in HUNT joins the window; the window of a whole sync starts a word. -/
def Input.huntBit (b : Bool) (x : Input) : Input :=
  let window := (if x.hunt.length < 12 then x.hunt else x.hunt.drop 1) ++ [b]
  if window = syncBits then { x with receiver := .word, bits := window, synced := true, hunt := [] }
  else { x with hunt := window }

/-- R77: a bit appended to the word bits. The twelfth of a following word is judged with its sync; the sixty-third is
bit 62, and its end starts bit 63 (R76). -/
def Input.wordBit (b : Bool) (x : Input) : Input :=
  let bits := x.bits ++ [b]
  if !x.synced ∧ bits.length = 12 then
    if bits = syncBits then { x with bits := bits, synced := true }
    else { x.countBad with receiver := .hunt, hunt := bits, bits := [] }
  else if bits.length = 63 then
    { x with bits := bits, lastBit := some { length := x.lastLength, elapsed := 0, value := none } }
  else { x with bits := bits }

/-- R76, R77: a bit is decoded, with its length. Bits that follow an undelivered word wait for its arrival. -/
def Input.decoded (b : Bool) (length : Nat) (x : Input) : Input :=
  let x := { x with half := none, lastLength := length }
  match x.receiver with
  | .idle => x
  | .hunt => x.huntBit b
  | .word => if x.lastBit.isSome then { x with following := x.following ++ [b] } else x.wordBit b

/-- R76: an ordinary level change from a bit start or a bit's middle. -/
def Input.change (n : Nat) (x : Input) : Input :=
  match interval n, x.half with
  | .tooShort, _ => x.lose
  | .half, none => { x with half := some n }
  | .half, some h => x.decoded true (h + n)
  | .whole, none => x.decoded false n
  | .whole, some _ => x.lose

/-- R76: a level change while bit 63 is under way: a half interval decides it as 1, and the change that ends a whole one
is the start of a following word's bit 0. -/
def Input.lastChange (n : Nat) (b : LastBit) (x : Input) : Input :=
  match interval n with
  | .tooShort => x.lose
  | .half => { x with lastBit := some { b with value := some true }, awaitStart := true }
  | .whole => { x with lastBit := some { b with value := some false } }

/-- R76: after bit 63 is decided, the next level change that is not too short starts bit 0 of a following word. -/
def Input.startChange (n : Nat) (x : Input) : Input :=
  match interval n with
  | .tooShort => x.lose
  | .half | .whole => { x with awaitStart := false }

/-- R76, R77: line quiet is reached and has not been acted on. -/
def Input.quietDue (x : Input) : Bool :=
  x.enable && decide (x.since = quietTicks) && (x.aligned || !x.hunt.isEmpty || x.receiver == .word)

/-- R76: a qualified level change on an enabled input. The first after alignment is lost is taken as a bit start; a
change that completes 23,000 reference ticks finds line quiet reached. -/
def Input.levelChange (x : Input) : Input :=
  let n := x.since
  let x := { (if x.quietDue then x.lose else x) with since := 0 }
  if !x.aligned then { x with aligned := true }
  else if x.awaitStart then x.startChange n
  else match x.lastBit with
    | some b => if b.value = none then x.lastChange n b else x.change n
    | none => x.change n

/-- Bit 63 is under way and undecided, and no level change has come within 11,999 reference ticks of its start: it is a
0 (R76). -/
def Input.lateZero (n : Nat) (x : Input) : Bool := decide (12000 ≤ n) && x.lastBit.any fun b => b.value.isNone

/-- R76: one reference tick passes at an input. -/
def Input.tick (x : Input) : Input :=
  if x.enable then
    let n := min quietTicks (x.since + 1)
    let zero := x.lateZero n
    { x with since := n, awaitStart := x.awaitStart || zero
             lastBit := x.lastBit.map fun b =>
               { b with elapsed := b.elapsed + 1, value := if zero then some false else b.value } }
  else x

/-- R78: the arrival: bit 62's length after the start of bit 63, once bit 63 is decided (entry 10). -/
def Input.arrivalDue (x : Input) : Bool :=
  x.enable && x.lastBit.any fun b => b.value.isSome && decide (b.length ≤ b.elapsed)

/-- R77: the completed word's bits. -/
def Input.received (x : Input) : BitVec 64 :=
  wordOfBits (x.bits ++ ((x.lastBit.bind fun b => b.value).toList))

/-- R77: after a completion the input stays in WORD, with the bits of the following word already decoded. -/
def Input.nextWord (x : Input) : Input :=
  { x with bits := x.following, synced := false, following := [], lastBit := none }

namespace State

/-- R78, R79, R80: the arrival of a word: discarded with no bound device, counted bad, or handed to the roster, every field of it, with the
line delay in force, before a frame boundary of its instant or after it (R86). -/
def wordArrival (i : InputId) (s : State) : State :=
  let x := s.inputs[i]
  let w := x.received
  let y := x.nextWord
  match x.bound with
  | none => s.setInput i y
  | some d =>
    if wordValid w then rosterWord d (readWord w) x.delay (s.setInput i y).rosterFirst
    else s.setInput i y.countBad

/-- R21, R78: the step notice at an input: a word being received is abandoned uncounted. -/
def stepInputs (s : State) : State :=
  { s with inputs := s.inputs.map fun x => if x.receiver = .word then x.restart .hunt else x }

end State

end Sys2Proof.Machine
end

