-- ==== Sys2Proof/Machine/Operands.lean ====
section
/-! DEFINITION. The argument checks of the orders: each reads the raw words of a slot into a checked setting, or answers
none where the owner refuses BAD_ARG. -/

namespace Sys2Proof.Machine

/-- R5: what an accepted CLOCK_START stores. -/
structure StartSetting where
  rate : Nat
  label : Label
  refUse : Bool
  tune : Option Tune
deriving DecidableEq, Repr

/-- R4, R7: the ranges of L, Wl and the holdover limit, and the flags of a tune. -/
def readTune (slew window holdover crash refUse : Word) : Option Tune := do
  let l ← readRange 1 255 slew
  let w ← readRange 0 255 window
  let h ← readRange 1 65535 holdover
  let c ← readFlag crash
  let r ← readFlag refUse
  return { slew := l, window := w, holdover := h, crash := c, refUse := r }

/-- R5: the arguments of CLOCK_START. The flags are checked always, the parameters when the parameter flag is set. -/
def readStart (a : ClockStartArgs) : Option StartSetting := do
  let rate ← readRange 0 10 a.rate
  let label : Label := { hh := a.hh.toNat, mm := a.mm.toNat, ss := a.ss.toNat, ff := a.ff.toNat }
  if labelValid rate label then
    let r ← readFlag a.refUse
    let p ← readFlag a.paramFlag
    let _ ← readFlag a.crash
    if p then
      let t ← readTune a.slew a.window a.holdover a.crash a.refUse
      return { rate := rate, label := label, refUse := r, tune := some t }
    else return { rate := rate, label := label, refUse := r, tune := none }
  else none

/-- R26: the period floor P. -/
def PortSetting.period (p : PortSetting) (m : Nat) : Nat := p.frames * m / p.events

/-- R26: the shape's own fields lie in range. -/
def PortSetting.shapeValid (p : PortSetting) : Bool :=
  match p.shape with
  | .pulse w => decide (1 ≤ w ∧ w ≤ 65535)
  | .toggle => true
  | .gate g => decide (1 ≤ g ∧ g + 1 ≤ p.events)

/-- R26: a port setting is valid against M. -/
def PortSetting.valid (p : PortSetting) (m : Nat) : Bool :=
  decide (1 ≤ p.events ∧ p.events ≤ 65535 ∧ p.events ≤ p.frames * m / 2 ∧ 1 ≤ p.frames ∧ p.frames ≤ 1024 ∧
    p.phase + 1 ≤ p.period m) && p.shapeValid

/-- R26: the width W' of a PULSE setting, 0 for TOGGLE and GATE (R30, R31). -/
def PortSetting.width (p : PortSetting) (m : Nat) : Nat :=
  match p.shape with
  | .pulse w => min w (p.period m - 1)
  | _ => 0

/-- 10.6, R26: a shape with the field it reads. -/
def readShape (a : PortSetArgs) : Option Shape :=
  if a.shape = 0 then some (.pulse a.width.toNat) else if a.shape = 1 then some .toggle
  else if a.shape = 2 then some (.gate a.gate.toNat) else none

/-- R26, R30, R31: the arguments of PORT_SET, checked against M. -/
def readPortSet (m : Nat) (a : PortSetArgs) : Option (PortId × PortSetting) := do
  let i ← readFin 12 a.port
  let shape ← readShape a
  let invert ← readFlag a.invert
  let p : PortSetting := { events := a.events.toNat, frames := a.frames.toNat, phase := a.phase.toNat
                           shape := shape, invert := invert }
  if p.valid m then return (i, p) else none

/-- R39, R40: the action of a TALLY_SET with its argument. -/
def readTallyAction (a : TallySetArgs) : Option TallyAction :=
  match a.action.toNat with
  | 0 => some .set
  | 1 => some .clear
  | 2 => some .toggle
  | 3 => (readRange 1 65535 a.value).map .pulse
  | 4 => do
    let g ← readFin 8 a.value
    let v ← readFlag a.invert
    return .bind g v
  | 5 => (readFlag a.invert).map .unbind
  | 6 => (readFlag a.value).map .polarity
  | _ => none

/-- R41: the arguments of TALLY_SET. -/
def readTally (a : TallySetArgs) : Option (LineId × TallyAction) := do
  let i ← readFin 8 a.line
  let action ← readTallyAction a
  return (i, action)

/-- R68: the arguments of OUTPUT_SET. -/
def readOutputSet (a : OutputSetArgs) : Option (OutputId × OutputSettings) := do
  let o ← readFin 4 a.output
  let mode ← readMode a.mode
  let burst ← readRange 1 15 a.burst
  let wake ← readRange 0 15 a.wake
  let grace ← readRange 0 255 a.grace
  let attempts ← readRange 1 15 a.attempts
  let verify ← readRange 1 255 a.verify
  let group ← readOptFin 8 a.group
  let idle ← readFin 16 a.idleIndex
  let openI ← readFin 16 a.openIndex
  return (o, { mode := mode, burst := burst, wake := wake, grace := grace, attempts := attempts, verify := verify
               group := group, idleIndex := idle, openIndex := openI })

/-- R67: the arguments of USER_TABLE: every value at most 255. -/
def readUserTable (entries : Vector Word 16) : Option (Vector Byte 16) :=
  if entries.toList.all (fun w => decide (w.toNat ≤ 255)) then some (entries.map fun w => w.setWidth 8) else none

/-- R75: the arguments of INPUT_SET. Every word is a line delay in range. -/
def readInputSet (a : InputSetArgs) : Option (InputId × Bool × Nat) := do
  let i ← readFin 8 a.input
  let e ← readFlag a.enable
  return (i, e, a.delay.toNat)

/-- R81, R82: the arguments of DEVICE_ENROL. -/
def readEnrol (a : DeviceEnrolArgs) : Option (DeviceId × DeviceSettings) := do
  let d ← readFin 16 a.device
  let input ← readOptFin 8 a.input
  let output ← readOptFin 4 a.jamOutput
  let threshold ← readRange 1 255 a.threshold
  let filter ← readFilter a.filter
  let policy ← readPolicy a.policy
  let silence ← readRange 1 255 a.silence
  let window ← readRange 8 256 a.driftWindow
  if a.soft.toNat ≤ a.hard.toNat ∧ a.hard.toNat ≤ 2147483647 then
    return (d, { input := input, jamOutput := output, groups := a.groups.setWidth 8, soft := a.soft.toNat
                 hard := a.hard.toNat, threshold := threshold, filter := filter, policy := policy
                 silence := silence, driftWindow := window })
  else none

/-- R119: the arguments of MARK_SET, as the mark input they make: latch ARMED, r loaded with Q, silent count 0. The
ignored count is kept. -/
def readMarkSet (a : MarkSetArgs) (ignored : Nat) : Option MarkInput := do
  let role ← readRole a.role a.target
  let edge ← readEdge a.edge
  let h ← readRange 0 255 a.holdoff
  let q ← readRange 0 255 a.quiet
  return { role := role, edge := edge, windowBase := a.windowBase, windowLimit := a.windowLimit, holdoff := h
           quiet := q, reArm := none, remaining := q, silent := 0, ignored := ignored }

/-- 10.6, R103: what a JAM names. -/
inductive JamTarget where
  | device (d : DeviceId)
  | output (o : OutputId)
deriving DecidableEq, Repr

/-- R103: the arguments of JAM. -/
def readJam (selector number : Word) : Option JamTarget :=
  if selector = 0 then (readFin 16 number).map .device
  else if selector = 1 then (readFin 4 number).map .output
  else none

/-- R180: a query's reply area: its address and capacity. -/
def readArea (address capacity : Word) : Option (Nat × Nat) :=
  if 1 ≤ capacity.toNat ∧ capacity.toNat ≤ 14080 ∧ Address.hostArea ≤ address.toNat ∧
      address.toNat + capacity.toNat ≤ Address.storeEnd
  then some (address.toNat, capacity.toNat) else none

end Sys2Proof.Machine
end

