-- ==== Sys2Proof/Machine/Ports.lean ====
section
/-! DEFINITION. Rate ports and tally lines (02): unit events, pulses, the application of settings and actions, and what
a frame boundary, a start, a step, a stop and a soft reset do to them. -/

namespace Sys2Proof.Machine

/-! ## Rate ports -/

/-- R29, R33 to R35: a new cadence begins at a frame: the level low, no pulse, event 0 to come. -/
def Port.anchorAt (p : Port) (f : FrameNo) : Port :=
  { p with anchor := f, cadenceFrame := 0, level := false, pulse := none, nextEvent := 0 }

/-- R33, R25: a pending setting or off leaves the port's hands. -/
def Port.clearPending (p : Port) : Port := { p with pending := none, applyFrame := none }

/-- R33: the port once its pending setting has applied at a frame. -/
def Port.applied (p : Port) (f : FrameNo) : Port :=
  match p.pending with
  | some (.setting x) => ({ p with active := some x }.anchorAt f).clearPending
  | some .off => { p with active := none, level := false, pulse := none }.clearPending
  | none => p

/-- R27: the cadence frame advances at a frame boundary. -/
def Port.countFrame (p : Port) : Port :=
  match p.active with
  | some x =>
    if p.cadenceFrame + 1 < x.frames then { p with cadenceFrame := p.cadenceFrame + 1 }
    else { p with cadenceFrame := 0, nextEvent := 0 }
  | none => p

/-- R29: one picture tick of a running pulse passes. -/
def Port.countPulse (p : Port) : Port := { p with pulse := p.pulse.map fun n => n - 1 }

/-- R29: what a unit event does to the level, by the shape. -/
def Port.event (p : Port) (m : Nat) : Port :=
  match p.active with
  | none => p
  | some x =>
    let p' := { p with nextEvent := p.nextEvent + 1 }
    match x.shape with
    | .pulse _ => { p' with level := true, pulse := some (x.width m) }
    | .toggle => { p' with level := !p.level }
    | .gate g =>
      if p.nextEvent = 0 then { p' with level := true }
      else if p.nextEvent = g then { p' with level := false }
      else p'

/-- R29: a pulse ends. -/
def Port.endPulse (p : Port) : Port := { p with level := false, pulse := none }

/-- R36: a port at the clock's stop. -/
def Port.stop (p : Port) : Port :=
  { p with pending := none, applyFrame := none, cadenceFrame := 0, level := false, pulse := none, nextEvent := 0 }

/-- R31: the first cadence start at or after the next frame boundary. -/
def Port.nextStart (p : Port) (now : FrameNo) : FrameNo :=
  match p.active with
  | some x => now + BitVec.ofNat 32 (x.frames - p.cadenceFrame)
  | none => now + 1

namespace State

/-- R33: this frame boundary is the one at which the port's pending setting applies. -/
def applyOwed (s : State) (i : PortId) : Bool :=
  s.running && s.ports[i].pending.isSome && decide (s.ports[i].applyFrame = some s.frame)

/-- R33: the port is the next whose pending setting applies at this boundary: ports report in port order. -/
def applyDue (s : State) (i : PortId) : Bool :=
  s.applyOwed i && !((List.finRange 12).any fun j => decide (j < i) && s.applyOwed j)

/-- R33: the PORT_APPLIED report of an application, from the port as it then stands. -/
def appliedBody (s : State) (i : PortId) (cause : PortCause) : ReportBody :=
  match s.ports[i].active with
  | some x => .portApplied i .active cause s.ports[i].anchor (x.width s.ticks)
  | none => .portApplied i .off cause s.ports[i].anchor 0

/-- R33: a port applies its pending setting or off, reports it, and open takes gain RATE_CHANGED. -/
def applyPort (cause : PortCause) (i : PortId) (s : State) : State :=
  let s := s.setPort i (s.ports[i].applied s.frame)
  (s.report false (s.appliedBody i cause)).rateNotice

/-- R28: the port's next unit event falls on the current picture tick. A port whose application is due at this boundary
emits no more events of its old setting (R33). -/
def eventDue (s : State) (i : PortId) : Bool :=
  let p := s.ports[i]
  match p.active with
  | some x =>
    s.running && !s.applyOwed i && decide (p.nextEvent < x.events) &&
      decide (x.phase + eventTick s.ticks x.frames x.events p.nextEvent = p.cadenceFrame * s.ticks + s.clock.tick)
  | none => false

/-- R29: the pulse has run its width. -/
def pulseDue (s : State) (i : PortId) : Bool := s.running && decide (s.ports[i].pulse = some 0)

/-- R28, R29: a unit event. -/
def unitEvent (i : PortId) (s : State) : State := s.setPort i (s.ports[i].event s.ticks)

/-- R29: a pulse's end. -/
def endPulse (i : PortId) (s : State) : State := s.setPort i s.ports[i].endPulse

/-- R34: a port at the START instant: its stored setting is checked against the new M. -/
def startPort (i : PortId) (s : State) : State :=
  match s.ports[i].active with
  | none => s
  | some x =>
    if x.valid s.ticks then
      let s := s.setPort i (s.ports[i].anchorAt 0)
      s.report false (.portApplied i .active .start 0 (x.width s.ticks))
    else
      let s := s.setPort i { s.ports[i] with active := none, level := false, pulse := none }
      s.report false (.portApplied i .dropped .start 0 0)

/-- R35: a port at a crash lock's step: an active port re-anchors, and a pending setting or off then applies. -/
def stepPort (i : PortId) (s : State) : State :=
  let s := if s.ports[i].active.isSome then s.setPort i (s.ports[i].anchorAt s.frame) else s
  if s.ports[i].pending.isSome then applyPort .step i s else s

end State

/-! ## Tally lines -/

/-- R41: a BIND applied to a line discards these when pending. -/
def TallyAction.drives : TallyAction → Bool
  | .set | .clear | .toggle | .pulse _ => true
  | .bind _ _ | .unbind _ | .polarity _ => false

/-- R39, R40: an action applied to a line; `isOpen` is the groups' state at that instant. -/
def Line.act (isOpen : GroupId → Bool) (a : TallyAction) (l : Line) : Line :=
  match a with
  | .set => { l with level := true, pulse := none }
  | .clear => { l with level := false, pulse := none }
  | .toggle => { l with level := !l.level, pulse := none }
  | .pulse n => { l with level := true, pulse := some n }
  | .bind g v => { l with group := some g, invert := v, level := isOpen g, pulse := none
                          pending := l.pending.filter fun a => !a.drives }
  | .unbind v => { l with group := none, invert := v, level := false, pulse := none }
  | .polarity v => { l with invert := v }

/-- R41: the line's pending action applies. -/
def Line.actPending (isOpen : GroupId → Bool) (l : Line) : Line :=
  match l.pending with
  | some a => { l with pending := none }.act isOpen a
  | none => l

/-- R38: a bound line follows its group. -/
def Line.follow (isOpen : GroupId → Bool) (l : Line) : Line :=
  match l.group with
  | some g => { l with level := isOpen g }
  | none => l

/-- R39, R41: a line at a frame boundary: the countdown, the following, the pending action. The following reads the group at
the end of the frame just ended (R38), and so does a pending BIND (entry 34, the model's choice). A pulse counted down to 0
ends first (TALLY_PULSE_END, entry 4), and the line's pending action then follows it. -/
def Line.boundary (isOpen : GroupId → Bool) (l : Line) : Line :=
  match l.pulse with
  | some n =>
    if n ≤ 1 then { l with pulse := some 0 }
    else ({ l with pulse := some (n - 1) }.follow isOpen).actPending isOpen
  | none => (l.follow isOpen).actPending isOpen

/-- R39, R41: the pulse ends at the boundary, before the following and the pending action. -/
def Line.endPulse (isOpen : GroupId → Bool) (l : Line) : Line :=
  ({ l with level := false, pulse := none }.follow isOpen).actPending isOpen

/-- R42: a line at the clock's stop. -/
def Line.stop (l : Line) : Line := { l with level := false, pulse := none, pending := none }

/-- R37, R42: a line at a soft reset. -/
def Line.softReset (l : Line) : Line :=
  match l.group with
  | none => { l with level := false, pulse := none, pending := none }
  | some _ => { l with pulse := none, pending := none }

namespace State

/-- The group's state as tally lines read it (R137). -/
def groupOpen (s : State) (g : GroupId) : Bool := s.groups[g].isOpen

/-- R39: the line's pulse has counted down to 0 at this boundary. -/
def tallyPulseDue (s : State) (i : LineId) : Bool := s.running && decide (s.lines[i].pulse = some 0)

/-- R39: the line's pulse ends. -/
def tallyPulseEnd (i : LineId) (s : State) : State := s.setLine i (s.lines[i].endPulse s.groupOpen)

/-- R41: an action applies to a line now. -/
def actLine (s : State) (i : LineId) (a : TallyAction) : State := s.setLine i (s.lines[i].act s.groupOpen a)

end State

end Sys2Proof.Machine
end

