-- ==== Sys2Proof/Machine/Outputs.lean ====
section
/-! DEFINITION. The time word outputs (04): word boundaries, words and their cells, bursts, settings, and what a start, a
step, a stop and a soft reset do to an output. -/

namespace Sys2Proof.Machine

/-- R60: the output sends words in this state. -/
def OutputState.sends : OutputState → Bool
  | .continuous | .waking | .bursting | .grace => true
  | .off | .silent => false

/-- R60: the states that count their words. -/
def OutputState.counts : OutputState → Bool
  | .waking | .bursting | .grace => true
  | .off | .silent | .continuous => false

/-- R59: an output at a frame boundary. -/
def Output.countFrame (span : Nat) (x : Output) : Output :=
  if x.wordFrame + 1 < span then { x with wordFrame := x.wordFrame + 1 }
  else { x with wordFrame := 0, boundaryOwed := true }

/-- R61 step 1: the word in progress finishes. -/
def Output.finish (x : Output) : Output :=
  if x.word.isSome then
    { x with word := none, wordsLeft := if x.state.counts then x.wordsLeft.map (fun n => n - 1) else x.wordsLeft }
  else x

/-- R68: the state that a new mode gives, by the old state. -/
def nextMode (old : OutputState) (mode : OutputMode) : OutputState :=
  match mode with
  | .off => .off
  | .continuous => .continuous
  | .burst => if old = .grace then .grace else .silent

/-- R68: a pending setting is applied at step 2. A burst in progress is cut. -/
def Output.applySetting (x : Output) (new : OutputSettings) : Output :=
  let st := nextMode x.state new.mode
  { x with settings := new, state := st, pending := none, cut := if x.state.counts && st != .grace then false else x.cut
           wordsLeft := if st = .grace then x.wordsLeft else none }

/-- R61 step 2: a pending setting applies. -/
def Output.settle (x : Output) : Output :=
  match x.pending with
  | some new => x.applySetting new
  | none => x

/-- R62: the next state with no burst request held. -/
def Output.nextState (x : Output) : Output :=
  if x.wordsLeft = some 0 then
    match x.state with
    | .waking =>
      if x.cut then { x with state := .silent, wordsLeft := none, cut := false }
      else { x with state := .bursting, wordsLeft := some x.settings.burst }
    | .bursting =>
      if x.settings.mode = .continuous then { x with state := .continuous, wordsLeft := none, cut := false }
      else if x.cut then { x with state := .silent, wordsLeft := none, cut := false }
      else if 1 ≤ x.settings.grace then { x with state := .grace, wordsLeft := some x.settings.grace }
      else { x with state := .silent, wordsLeft := none }
    | .grace => { x with state := .silent, wordsLeft := none }
    | .off | .silent | .continuous => x
  else x

/-- R63: a held burst request starts, by the state at step 3. WAKING and BURSTING hold no request. -/
def Output.startBurst (x : Output) : Output :=
  match x.state with
  | .continuous | .grace => { x with request := none, state := .bursting, wordsLeft := some x.settings.burst }
  | .silent =>
    if 1 ≤ x.settings.wake then { x with request := none, state := .waking, wordsLeft := some x.settings.wake }
    else { x with request := none, state := .bursting, wordsLeft := some x.settings.burst }
  | .off => { x with request := none }
  | .waking | .bursting => x

/-- R63: a held burst request that was accepted before this boundary's frame starts here. -/
def Output.requestStarts (x : Output) (now : FrameNo) : Bool := x.request.any fun f => f != now

/-- R72: an output at the clock's stop. -/
def Output.stop (x : Output) : Output :=
  let settings := match x.pending with
    | some new => new
    | none => x.settings
  { x with settings := settings, state := if settings.mode = .off then .off else .silent, wordsLeft := none
           cut := false, word := none, level := false, request := none, pending := none, boundaryOwed := false }

/-- R70: an output at the START instant. -/
def Output.start (x : Output) : Output :=
  { x with anchor := 0, wordFrame := 0, boundaryOwed := true
           state := if x.settings.mode = .continuous then .continuous else x.state }

/-- R73: an output at a soft reset. -/
def Output.softReset (x : Output) : Output :=
  let x := { x with request := none, pending := none }
  match x.state with
  | .waking => { x with wordsLeft := some 1, cut := true }
  | .bursting => { x with wordsLeft := some 1, cut := x.cut || x.settings.mode == .burst }
  | .grace | .continuous | .silent | .off => x

/-- R57: the line's level as cell c of a word begins: it inverts at a bit's start, and again at its middle for a 1. -/
def cellLevel (bits : BitVec 64) (c : Nat) (level : Bool) : Bool :=
  if c % 2 = 0 then !level else if bits.getLsbD (c / 2) then !level else level

namespace State

/-- R59, R61: the output has a word boundary to act on at this instant. -/
def wordDue (s : State) (o : OutputId) : Bool := s.running && s.outputs[o].boundaryOwed

/-- R66: the user byte and the take byte, from the bound group's state at this instant. -/
def wordBytes (s : State) (o : OutputId) : Byte × Byte :=
  let x := s.outputs[o].settings
  match x.group.bind fun g => s.groups[g].current with
  | some t => (s.userBits[x.openIndex], BitVec.ofNat 8 t.number)
  | none => (s.userBits[x.idleIndex], 0)

/-- R56: the word an output composes at this word boundary. -/
def composed (s : State) (o : OutputId) : BitVec 64 :=
  let label := labelOf s.clock.rate (frameCount s.clock.startCount s.clock.rate s.frame)
  let bytes := s.wordBytes o
  composeWord label s.clock.rate (s.outputs[o].state == .bursting) bytes.1 bytes.2

/-- R61 step 1, R65: the word finishes; the last jam word's end gives the burst end notice, which acts only while a run
is active. -/
def finishWord (o : OutputId) (s : State) : State :=
  let x := s.outputs[o]
  let s := s.setOutput o x.finish
  if x.word.isSome && x.state == .bursting && x.finish.wordsLeft == some 0 then s.burstEnd o else s

/-- R61 step 3: a held request starts (R63) or the state follows R62; entering BURSTING gives the burst begun notice,
and a request dropped in OFF the burst cut notice (R65). -/
def advanceOutput (o : OutputId) (s : State) : State :=
  let x := s.outputs[o]
  let starts := x.requestStarts s.frame
  let y := if starts then x.startBurst else x.nextState
  let s := s.setOutput o y
  if starts && x.state == .off then s.burstCut o
  else if x.state != .bursting && y.state == .bursting then s.rosterFirst.burstBegun o
  else s

/-- R61 step 4, R58: a new word begins, or the line is low. -/
def beginWord (o : OutputId) (s : State) : State :=
  let x := s.outputs[o]
  if x.state.sends then
    s.setOutput o { x with word := some { bits := s.composed o, nextCell := 0 }, boundaryOwed := false }
  else s.setOutput o { x with level := false, boundaryOwed := false }

/-- R61 step 2. -/
def settleOutput (o : OutputId) (s : State) : State := s.setOutput o s.outputs[o].settle

/-- R61: an output acts on its word boundary. -/
def wordBoundary (o : OutputId) (s : State) : State :=
  beginWord o (advanceOutput o (settleOutput o (finishWord o s)))

/-- R68: a word boundary that the output still owes at this instant begins before an order is taken. -/
def beginBoundary (o : OutputId) (s : State) : State := if s.wordDue o then wordBoundary o s else s

/-- R71: an output at a crash lock's step: the boundary becomes its anchor and is handled as a word boundary. -/
def stepOutput (o : OutputId) (s : State) : State :=
  wordBoundary o (s.setOutput o { s.outputs[o] with anchor := s.frame, wordFrame := 0 })

/-- R57: the next cell of the word in progress begins at the current picture tick. -/
def cellDue (s : State) (o : OutputId) : Bool :=
  let x := s.outputs[o]
  match x.word with
  | some w => s.running && !x.boundaryOwed && decide (w.nextCell < 128) &&
      decide (eventTick s.ticks s.span 128 w.nextCell = x.wordFrame * s.ticks + s.clock.tick)
  | none => false

/-- R57: a cell begins. -/
def cellStart (o : OutputId) (s : State) : State :=
  let x := s.outputs[o]
  match x.word with
  | some w => s.setOutput o { x with level := cellLevel w.bits w.nextCell x.level
                                     word := some { w with nextCell := w.nextCell + 1 } }
  | none => s

end State

end Sys2Proof.Machine
end

