-- ==== Sys2Proof/Machine/PictureClock.lean ====
section
/-! DEFINITION. The Picture Clock (01): corrections, frame boundaries, arrivals, locking, holdover and crash lock, with what
a frame boundary and a step do in the other blocks. -/

namespace Sys2Proof.Machine

/-- R12: the error of an arrival at tick p. -/
def arrivalError (m p : Nat) : Int := if p ≤ (m - 1) / 2 then (p : Int) else (p : Int) - (m : Int)

/-- R13: the correction of the frame that begins. -/
def Clock.nextCorrection (c : Clock) : Int :=
  match c.state with
  | .stopped | .freeRun => 0
  | .locking | .locked => saturate c.slew ((c.ordered.map fun e => e.error).getD 0)
  | .holdover => saturate c.slew (c.holdoverValue.getD 0)

/-- R13: the settled correction joins the history: its error was taken in LOCKED, and it is settled in LOCKED or
LOCKING. -/
def Clock.recorded (c : Clock) : Bool :=
  decide (c.state = .locking ∨ c.state = .locked) && c.ordered.any fun e => e.takenIn == .locked

/-- R15: the history with a correction at its newest end, at most 8. -/
def pushHistory (h : List Int) (c : Int) : List Int := (if h.length < 8 then h else h.drop 1) ++ [c]

/-- R13, R12 step 3: the correction of the new frame is settled and the ordered error used. -/
def Clock.settle (c : Clock) : Clock :=
  let x := c.nextCorrection
  { c with correction := x, ordered := none, settleOwed := false
           history := if c.recorded then pushHistory c.history x else c.history }

/-- R2: the frame number advances and the tick returns to 0. -/
def Clock.advance (c : Clock) : Clock := { c with frame := c.frame + 1, tick := 0, phase := .single }

/-- R8: the tune's five values replace the clock's. -/
def Clock.tuned (c : Clock) (t : Tune) : Clock :=
  { c with slew := t.slew, window := t.window, holdoverLimit := t.holdover, crashPermit := t.crash
           refUse := t.refUse, pendingTune := none }

/-- R8: the items a clock gives up as a tune moves it to FREE. -/
def Clock.unreferenced (c : Clock) : Clock :=
  { c with lockRun := 0, missingRun := 0, holdoverCount := 0, ordered := none, holdoverValue := none
           crashEligible := false }

/-- R12 step 2: the frame just ended is judged for a missing arrival (R18), and a boundary in HOLDOVER counted
(R19). -/
def Clock.judge (c : Clock) : Clock :=
  let missed := c.refUse && !c.arrived
  { c with missingRun := if missed then bump c.missingRun else c.missingRun
           lockRun := if missed then 0 else c.lockRun
           holdoverCount := if c.state = .holdover then bump c.holdoverCount else c.holdoverCount
           arrived := false }

/-- R18: the missing run moves the clock out of LOCKED or LOCKING. -/
def Clock.missing (c : Clock) : Bool :=
  c.refUse && decide (c.state = .locked ∨ c.state = .locking) && decide (4 ≤ c.missingRun)

/-- R19: the holdover has lasted its limit. -/
def Clock.expired (c : Clock) : Bool := decide (c.state = .holdover) && decide (c.holdoverLimit ≤ c.holdoverCount)

/-- R6: the clock at the START instant. -/
def Clock.started (c : Clock) (x : StartSetting) : Clock :=
  { c with state := if x.refUse then .locking else .freeRun, frame := 0, tick := 0, phase := .single, correction := 0
           rate := x.rate, startCount := labelCount x.rate x.label
           slew := (x.tune.map (·.slew)).getD c.slew, window := (x.tune.map (·.window)).getD c.window
           holdoverLimit := (x.tune.map (·.holdover)).getD c.holdoverLimit
           crashPermit := (x.tune.map (·.crash)).getD c.crashPermit, refUse := x.refUse, pendingTune := none
           ordered := none, lockRun := 0, missingRun := 0, crashEligible := x.refUse, history := []
           holdoverValue := none, holdoverCount := 0, arrived := false, settleOwed := false }

/-- R9: the clock at the stop, its position frozen. -/
def Clock.halted (c : Clock) : Clock :=
  { c with pendingTune := none, ordered := none, holdoverValue := none, lockRun := 0, missingRun := 0
           holdoverCount := 0, crashEligible := false, settleOwed := false, correction := 0, phase := .single }

namespace State

/-- R23: the header mirror is rewritten while the store is open: low word of F, high word, clock state. -/
def writeMirror (s : State) : State :=
  if s.bus.ready then
    ((s.putWord Address.frameLow (lo16 s.frame)).putWord Address.frameHigh (hi16 s.frame)).putWord
      Address.clockState s.clock.state.code
  else s

/-- R12 steps 3 and 4. -/
def settleClock (s : State) : State := (s.setClock s.clock.settle).writeMirror

/-- R8: a pending tune applies. -/
def applyTune (s : State) : State :=
  match s.clock.pendingTune with
  | none => s
  | some t =>
    let s := s.setClock (s.clock.tuned t)
    if !t.refUse then
      if s.clock.state = .freeRun ∨ s.clock.state = .stopped then s
      else (s.setClock s.clock.unreferenced).changeClock .freeRun .tune none
    else if s.clock.expired then
      (s.setClock { s.clock with holdoverValue := none }).changeClock .freeRun .expiry none
    else s

/-- R12 steps 1 and 2, and steps 3 and 4 unless a transition of R18 or R19 comes between them (entry 4). -/
def clockBoundary (s : State) : State :=
  let s := s.applyTune
  let s := s.setClock s.clock.judge
  if s.clock.missing || s.clock.expired then s.setClock { s.clock with settleOwed := true } else s.settleClock

/-- R18: a transition for want of arrivals is due at this boundary. -/
def missingDue (s : State) : Bool := s.clock.settleOwed && s.clock.missing

/-- R18, R19: LOCKED enters HOLDOVER with the mean of the history, LOCKING enters FREE; the boundary is then
settled. -/
def leaveMissing (s : State) : State :=
  if s.clock.state = .locked then
    let v := historyMean s.clock.history
    ((s.setClock { s.clock with holdoverValue := some v, holdoverCount := 0 }).changeClock .holdover .missing
      (some v)).settleClock
  else ((s.setClock { s.clock with crashEligible := false }).changeClock .freeRun .missing none).settleClock

/-- HREF_MISSING: the transition of R18, with its notice to the takes (R22). -/
def hrefMissing (s : State) : State := s.leaveMissing.giveUnlocked

/-- R19: the holdover's expiry is due at this boundary. -/
def holdoverDue (s : State) : Bool := s.clock.settleOwed && s.clock.expired

/-- R19: HOLDOVER ends by expiry; the boundary is then settled. -/
def holdoverExpiry (s : State) : State :=
  ((s.setClock { s.clock with holdoverValue := none }).changeClock .freeRun .expiry none).settleClock

/-- R12: the frame boundary is one sequence of the clock: an event that reads or changes the clock finds it made. -/
def closeClock (s : State) : State :=
  if s.missingDue then s.leaveMissing else if s.holdoverDue then s.holdoverExpiry else s

/-! ## A frame boundary in every block -/

/-- R170: a scan request starts a scan at once, or sets the scan pending flag. -/
def scanRequest (s : State) : State :=
  if s.bus.ready ∧ s.scanner.point = none then s.setScanner { s.scanner with point := some 0 }
  else s.setScanner { s.scanner with requested := true }

/-- R27, R29: ports at a frame boundary: the cadence frame advances. -/
def countPorts (s : State) : State := { s with ports := s.ports.map Port.countFrame }

/-- R41: lines at a frame boundary. A pending BIND that applies here reads its group before any take that opens or closes at
the boundary's instant (entry 34, the model's choice: R40 and R137 allow either order). -/
def boundaryLines (s : State) : State := { s with lines := s.lines.map (Line.boundary s.groupOpen) }

/-- R59: outputs at a frame boundary. -/
def countOutputs (s : State) : State := { s with outputs := s.outputs.map (Output.countFrame s.span) }

/-- One picture tick passes: a running pulse has one tick less to run (R29). -/
def countPulses (s : State) : State := { s with ports := s.ports.map Port.countPulse }

/-- R96, R117, R170: the boundary owes the roster's count and the automatic check, so that orders and edges of its instant
may come before them (R86, R117), and makes a scan request. -/
def boundaryRest (s : State) : State := (s.setOwed { s.owed with count := true, check := true }).scanRequest

/-- What the present frame boundary still owes is done. -/
def finishOwed (s : State) : State := s.giveUnlocked.counted.checkOwed

/-- R2, R12 and every block's frame boundary: the tick passes M - 1. -/
def passBoundary (s : State) : State :=
  ((s.countPulses.setClock s.clock.advance).clockBoundary.boundaryLines.countPorts.countOutputs).boundaryRest

/-! ## Arrivals -/

/-- R16: an arrival's error is stored with the state it was taken in, and the lock run advances. -/
def lockArrival (s : State) (e : Int) : State :=
  let c := { s.clock with ordered := some { error := e, takenIn := s.clock.state } }
  let inside := decide (e.natAbs ≤ c.window)
  if c.state = .locking then
    if !inside then s.setClock { c with lockRun := 0 }
    else if c.lockRun + 1 < 8 then s.setClock { c with lockRun := c.lockRun + 1 }
    else (s.setClock { c with lockRun := 0 }).changeClock .locked .lockRun none
  else
    if inside then s.setClock { c with lockRun := 0 }
    else if c.lockRun + 1 < 4 then s.setClock { c with lockRun := c.lockRun + 1 }
    else ((s.setClock { c with lockRun := 0, crashEligible := true }).changeClock .locking .unlockRun none).giveUnlocked

/-- R20: the conditions of a crash lock that the clock itself holds. -/
def crashWanted (s : State) (e : Int) : Bool := decide (8 * s.clock.slew < e.natAbs) && s.clock.crashPermit

/-- R20: the conditions of a crash lock. -/
def crashAllowed (s : State) (e : Int) : Bool := s.crashWanted e && !s.anyOpen

/-- R21: the step notice in the blocks that keep cadences or words. -/
def stepBlocks (s : State) : State := forEach 4 stepOutput (forEach 12 stepPort s.stepInputs)

/-- R21: a crash lock cuts the frame at tick p, and the next boundary falls here. -/
def crashLock (s : State) (e : Int) : State :=
  let cut := s.frame
  let step := (s.here.tick : Int) - (s.ticks : Int)
  let s := (s.lockArrival 0)
  let s := (s.setClock s.clock.advance).clockBoundary
  let s := s.report false (.clockStepped step e cut)
  s.boundaryLines.stepBlocks.boundaryRest

/-- R11: an HREF edge is taken as this frame's arrival. -/
def arrivalTaken (s : State) : Bool :=
  s.running && !s.clock.arrived && !(decide (s.clock.state = .freeRun) && !s.clock.refUse)

/-- R17: an arrival in FREE or HOLDOVER moves the clock to LOCKING. Its CLOCK_STATE carries the arrival's position (F, p), also
when the same arrival then crash-locks and boundary F + 1 falls at its reference tick (entry 35, the model's choice). -/
def beginLocking (s : State) : State :=
  if s.clock.state = .freeRun ∨ s.clock.state = .holdover then
    (s.setClock { s.clock with lockRun := 0, crashEligible := true, holdoverValue := none
                               holdoverCount := 0 }).changeClock .locking .arrival none
  else s

/-- R11, R17: an arrival is taken, before its error is judged. -/
def beginArrival (s : State) : State := (s.setClock { s.clock with arrived := true, missingRun := 0 }).beginLocking

/-- R12: the error of an arrival taken now. -/
def errorNow (s : State) : Int := arrivalError s.ticks s.here.tick

/-- R20: an arrival taken now would be judged for a crash lock, and only an open take would decline it. -/
def crashPossible (s : State) : Bool :=
  s.arrivalTaken && s.beginArrival.clock.crashEligible && s.beginArrival.crashWanted s.errorNow

/-- R20: an arrival taken now crash-locks. -/
def crashDue (s : State) : Bool :=
  s.arrivalTaken && s.beginArrival.clock.crashEligible && s.beginArrival.crashAllowed s.errorNow

/-- R11, R16, R17, R20: an arrival. -/
def arrival (s : State) : State :=
  if s.arrivalTaken then
    let e := s.errorNow
    let s := s.beginArrival
    if s.clock.crashEligible then
      let s := s.setClock { s.clock with crashEligible := false }
      if s.crashAllowed e then s.crashLock e else s.lockArrival e
    else s.lockArrival e
  else s

/-! ## Start and stop in the clock -/

/-- R121, R144: the mark latches at the START instant. -/
def armLatches (s : State) : State := { s with marks := s.marks.map fun m => { m with reArm := none } }

/-- R34, R97: ports and devices at the START instant. -/
def startBlocks (s : State) : State := forEach 16 startDevice (forEach 12 startPort s)

/-- R42, R70: lines and outputs at the START instant. -/
def startPins (s : State) : State :=
  { s with lines := s.lines.map (Line.follow s.groupOpen), outputs := s.outputs.map Output.start }

/-- R121, R117, R170: latches, the automatic check that boundary 0 owes, and the scanner at the START instant. -/
def startRest (s : State) : State :=
  ((s.armLatches.setScanner { s.scanner with idle := 0 }).setOwed { s.owed with check := true }).scanRequest

/-- R6: the clock itself at the START instant, with its CLOCK_STATE report. -/
def startReport (s : State) (x : StartSetting) : State :=
  let s := (s.setClock (s.clock.started x)).setWriter { s.writer with clock := true }
  s.report false (.clockState .stopped s.clock.state .start none)

/-- R6: the START instant, in every block. Outputs act on boundary 0 as a word boundary that is owed (R70). A frame boundary
at which the clock stopped, at this same instant, first has its silence step. -/
def startClock (s : State) (x : StartSetting) : State :=
  (s.counted.closeSilences.startReport x).writeMirror.startBlocks.startPins.startRest

end State

end Sys2Proof.Machine
end

