-- ==== Sys2Proof/Machine/Queries.lean ====
section
/-! DEFINITION. The reply records of the four queries (10.5, R185), from the state each is answered from. -/

namespace Sys2Proof.Machine

/-- R185: the five words of a pending tune. -/
def tuneWords (t : Tune) : List Word := [num t.slew, num t.window, num t.holdover, flag t.crash, flag t.refUse]

/-- R24, R185: QUERY_CLOCK, 28 + n words. -/
def clockRecord (c : Clock) (position : Position) : List Word :=
  [c.state.code, num c.rate] ++ wide32 position.frame ++ num32 position.tick ++ num32 c.startCount ++
    [num c.slew, num c.window, num c.holdoverLimit, flag c.crashPermit, flag c.refUse] ++
    [flag c.pendingTune.isSome] ++ ((c.pendingTune.map tuneWords).getD [0, 0, 0, 0, 0]) ++
    optSigned32 (c.ordered.map fun e => e.error) ++ [((c.ordered.map fun e => e.takenIn.code).getD 0xFFFF)] ++
    [num c.lockRun, num c.missingRun, flag c.crashEligible, num c.holdoverCount, optSigned16 c.holdoverValue,
      num c.history.length] ++ c.history.map signed16

/-- R185: words 24 to 34 of QUERY_DEVICE: the capture's presence and its ten words. -/
def captureWords : Option Capture → List Word
  | none => List.replicate 11 0
  | some k => [1] ++ wide32 k.position.frame ++ num32 k.position.tick ++ signed32 k.offset ++
      [num k.label.hh, num k.label.mm, num k.label.ss, num k.label.ff]

/-- R185: the last four words of QUERY_DEVICE, from the input the device names. -/
def inputWords : Option Input → List Word
  | none => [0, 0, 0, 0]
  | some i => [flag i.enable, num i.delay, i.receiver.code, num i.badWords]

/-- R85, R185: QUERY_DEVICE, 41 words. -/
def deviceRecord (d : DeviceId) (x : Device) (input : Option Input) : List Word :=
  [num d.val, optNum (x.settings.input.map fun i => i.val), optNum (x.settings.jamOutput.map fun o => o.val),
    groupWord x.settings.groups, num x.settings.soft] ++ num32 x.settings.hard ++
    [num x.settings.threshold, x.settings.filter.code, x.settings.policy.code, num x.settings.silence,
      num x.settings.driftWindow, x.state.code, num x.strikes] ++ optSigned32 x.lastOffset ++
    [num x.validRun, num x.sinceWord, optSigned16 x.drift] ++ signed32 x.windowOffset ++ wide32 x.windowFrame ++
    [num x.windowCount] ++ captureWords x.capture ++ [num x.breaches, flag x.jamWanted] ++ inputWords input

/-- R127, R185: QUERY_MARK, 16 words. -/
def markRecord (i : MarkId) (m : MarkInput) : List Word :=
  [num i.val, m.role.code, optNum m.role.target, m.edge.code] ++ wide32 m.windowBase ++ wide32 m.windowLimit ++
    [num m.holdoff, num m.quiet, flag m.reArm.isSome] ++ wide32 (m.reArm.getD 0) ++
    [num m.remaining, num m.silent, num m.ignored]

/-- R185: a participant's entry. -/
def participantWords (suspects : DeviceSet) (p : Participant) : List Word :=
  [num (p.device.val + 256 * (inSet suspects p.device).toNat) + 16 * p.state.code] ++ optSigned32 p.lastOffset ++ [0]

/-- R185: the source of a stored mark: its input, or 0xFF for INJECT. -/
def MarkSource.number : MarkSource → Nat
  | .input i => i.val
  | .inject => 0xFF

/-- R185: a stored mark's entry. -/
def markWords (m : Mark) : List Word :=
  [m.kind] ++ wide32 m.position.frame ++
    [num (m.position.tick % 65536), num (m.position.tick / 65536 % 32 + 256 * MarkSource.number m.source)]

/-- R185: the sixteen words that open QUERY_TAKE. -/
def takeHead (g : Group) : List Word :=
  match g.take with
  | none => [0, num g.counter] ++ wide32 g.nextTag ++ [0, 0, 0, closerWord none, 0, 0, 0, 0, 0, 0, 0, 0]
  | some t =>
    let close := t.closed.map fun c => c.1
    let tick := (close.map fun p => p.tick).getD 0
    [t.flags.word + 32 + 64 * flag g.isOpen + num (256 * (t.openCount / 65536 % 128)), num g.counter] ++
      wide32 g.nextTag ++ wide32 t.tag ++
      [t.opener.word + num (256 * (t.opened.tick / 65536 % 32)),
        closerWord (t.closed.map fun c => c.2) + num (256 * (tick / 65536 % 32)), num t.markTotal] ++
      wide32 t.opened.frame ++ [num (t.opened.tick % 65536)] ++
      wide32 ((close.map fun p => p.frame).getD 0) ++ [num (tick % 65536), num (t.openCount % 65536)]

/-- R146, R185: QUERY_TAKE, 16 + 4p + 5m words. -/
def takeRecord (g : Group) : List Word :=
  takeHead g ++
    match g.take with
    | none => []
    | some t => t.participants.flatMap (participantWords t.suspects) ++ t.marks.flatMap markWords

end Sys2Proof.Machine
end

