-- ==== Sys2Proof/Machine/Owners.lean ====
section
/-! DEFINITION. The owners of the orders (R173): each checks its order's arguments, acts, and answers with a result. The
Schedule's own orders, CANCEL and the stop of CLOCK_STOP, are with the Schedule. -/

namespace Sys2Proof.Machine

/-- How an order reaches its owner: from a scan or fired by the Schedule, from which slot, as a REPEAT's firing or not
(R104), and late within grace or not (R148). -/
structure Taking where
  slot : SlotId
  fired : Bool
  again : Bool
  late : Bool
deriving DecidableEq, Repr

/-- What an owner answers: a result with its short reply and a query's record, or no completion yet: a JAM whose run
has started (R104). -/
inductive Result where
  | completes (code : ResultCode) (reply : Reply) (record : Option ReplyRecord)
  | awaitsRun
deriving DecidableEq, Repr

/-- A refusal: nothing changes and the short reply is 0 (R183). -/
def refuse (code : ResultCode) (s : State) : State × Result := (s, .completes code Reply.zero none)
/-- An acceptance with a short reply. -/
def acceptWith (reply : Reply) (s : State) : State × Result := (s, .completes .done reply none)
/-- An acceptance whose short reply is 0. -/
def accept (s : State) : State × Result := acceptWith Reply.zero s

namespace State

/-- R5, R6: CLOCK_START. -/
def ownClockStart (a : ClockStartArgs) (s : State) : State × Result :=
  if s.running then refuse .busy s
  else match readStart a with
    | none => refuse .badArg s
    | some x => accept (s.startClock x)

/-- R7: CLOCK_TUNE. -/
def ownClockTune (a : ClockTuneArgs) (s : State) : State × Result :=
  if !s.running then refuse .noClock s
  else match readTune a.slew a.window a.holdover a.crash a.refUse with
    | none => refuse .badArg s
    | some t => accept (s.setClock { s.clock with pendingTune := some t })

/-- R30: a port setting stored while the clock is STOPPED. -/
def Port.store (p : Port) (x : PortSetting) : Port :=
  { p with active := some x, anchor := 0, cadenceFrame := 0, level := false, nextEvent := 0 }

/-- R31: a pending setting or off offered to a port while the clock runs; CLASH when it holds one already (R32). -/
def offerPort (i : PortId) (x : PortPending) (width : Nat) (s : State) : State × Result :=
  let p := s.ports[i]
  if p.pending.isSome then refuse .clash s
  else
    let f := p.nextStart s.frame
    acceptWith (Reply.wideThen f (num width)) (s.setPort i { p with pending := some x, applyFrame := some f })

/-- R30, R31: PORT_SET. -/
def ownPortSet (a : PortSetArgs) (s : State) : State × Result :=
  match readPortSet s.ticks a with
  | none => refuse .badArg s
  | some (i, x) =>
    if s.running then s.offerPort i (.setting x) (x.width s.ticks)
    else acceptWith (Reply.wideThen 0 (num (x.width s.ticks))) (s.setPort i (Port.store s.ports[i] x))

/-- R30, R31: PORT_OFF. R31 refuses a port number above 11 while the clock runs and R30 names no such refusal while it is
STOPPED; the model refuses it there too (entry 19, the model's choice). -/
def ownPortOff (port : Word) (s : State) : State × Result :=
  match readFin 12 port with
  | none => refuse .badArg s
  | some i =>
    if s.running then s.offerPort i .off 0
    else accept (s.setPort i { s.ports[i] with active := none })

/-- R41: TALLY_SET. Taken from a scan while the clock runs, the action waits for the next boundary; fired, or while
STOPPED, it applies now. -/
def ownTallySet (tk : Taking) (a : TallySetArgs) (s : State) : State × Result :=
  match readTally a with
  | none => refuse .badArg s
  | some (i, action) =>
    if action.drives && !s.running then refuse .noClock s
    else if action.drives && s.lines[i].group.isSome then refuse .bound s
    else if !s.running || tk.fired then acceptWith (Reply.wideThen s.frame 0) (s.actLine i action)
    else acceptWith (Reply.wideThen (s.frame + 1) 0) (s.setLine i { s.lines[i] with pending := some action })

/-- R68: an OUTPUT_SET applied while the clock is STOPPED. -/
def Output.store (x : Output) (new : OutputSettings) : Output :=
  { x with settings := new, state := if new.mode = .off then .off else .silent, level := false }

/-- R68: OUTPUT_SET. One accepted at a word boundary's instant is taken after that boundary has begun, so a setting due there
applies and the order's own waits for the next. -/
def ownOutputSet (a : OutputSetArgs) (s : State) : State × Result :=
  match readOutputSet a with
  | none => refuse .badArg s
  | some (o, new) =>
    if s.runs[o].isSome then refuse .busy s
    else if s.running then
      let s := s.beginBoundary o
      let x := s.outputs[o]
      acceptWith (Reply.wideThen (s.frame + BitVec.ofNat 32 (s.span - x.wordFrame)) 0)
        (s.setOutput o { x with pending := some new })
    else acceptWith (Reply.wideThen s.frame 0) (s.setOutput o (Output.store s.outputs[o] new))

/-- R67: USER_TABLE. -/
def ownUserTable (entries : Vector Word 16) (s : State) : State × Result :=
  match readUserTable entries with
  | none => refuse .badArg s
  | some t => accept { s with userBits := t }

/-- R75: an input with an accepted enable and line delay. -/
def Input.configure (x : Input) (enable : Bool) (delay : Nat) : Input :=
  let y := if x.enable == enable then x
    else if enable then { x.restart .hunt with since := 0 } else x.restart .idle
  { y with enable := enable, delay := delay }

/-- R75: INPUT_SET. -/
def ownInputSet (a : InputSetArgs) (s : State) : State × Result :=
  match readInputSet a with
  | none => refuse .badArg s
  | some (i, enable, delay) => accept (s.setInput i (Input.configure s.inputs[i] enable delay))

/-- R82: an input's bound device as an enrolment of d on input `named` leaves it. -/
def Input.rebind (d : DeviceId) (named : Option InputId) (i : InputId) (x : Input) : Input :=
  if named = some i then { x with bound := some d }
  else if x.bound = some d then { x with bound := none } else x

/-- R82, R83: device d is bound to the input it names and to no other. -/
def bindDevice (d : DeviceId) (named : Option InputId) (s : State) : State :=
  forEach 8 (fun i s => s.setInput i (Input.rebind d named i s.inputs[i])) s

/-- R82: another enrolled device names the input. -/
def inputTaken (d : DeviceId) (named : Option InputId) (s : State) : Bool :=
  named.isSome && (List.finRange 16).any fun e =>
    decide (e ≠ d) && s.devices[e].any fun x => x.settings.input == named

/-- R82: DEVICE_ENROL. A run that the leave notice ends reports before the record's own DEVICE_STATE (entry 31, the model's
choice: R174 allows either order). -/
def ownDeviceEnrol (a : DeviceEnrolArgs) (s : State) : State × Result :=
  match readEnrol a with
  | none => refuse .badArg s
  | some (d, settings) =>
    if s.inputTaken d settings.input then refuse .clash s
    else if s.devices[d].any fun x => x.state == .jamming then refuse .busy s
    else
      let s := s.rosterFirst
      let previous := s.devices[d].map fun x => x.state
      let s := (s.setDevice d (some (Device.enrolled settings))).bindDevice d settings.input
      let s := leaveNotice d s
      accept (s.report false (.deviceState d previous (some .absent) .enrol 0 none 0))

/-- R83: DEVICE_DROP. A run that the leave notice ends reports before the record's own DEVICE_STATE (entry 31, the model's
choice: R174 allows either order). -/
def ownDeviceDrop (device : Word) (s : State) : State × Result :=
  match readFin 16 device with
  | none => refuse .badArg s
  | some d =>
    let t := s.rosterFirst
    match t.devices[d] with
    | none => refuse .noDevice s
    | some x =>
      let s := leaveNotice d ((t.setDevice d none).bindDevice d none)
      accept (s.report false (.deviceState d (some x.state) none .drop 0 none 0))

/-- R84: FAULT_ACK. -/
def ownFaultAck (device : Word) (s : State) : State × Result :=
  match readFin 16 device with
  | none => refuse .badArg s
  | some d =>
    match s.devices[d] with
    | none => refuse .noDevice s
    | some x => accept (s.setDevice d (some { x with capture := none, breaches := 0 }))

/-- R103: the jam output a JAM means, or its refusal by checks 2 to 4. -/
def jamOutput (t : JamTarget) (s : State) : Except ResultCode OutputId :=
  let path : Option OutputId → Except ResultCode OutputId := fun o? =>
    if !s.running then .error .noClock
    else match o? with
      | none => .error .noPath
      | some o => if s.outputs[o].settings.mode = .off then .error .noPath else .ok o
  match t with
  | .output o => path (some o)
  | .device d =>
    match s.devices[d] with
    | none => .error .noDevice
    | some x => path x.settings.jamOutput

/-- R103, R104: JAM. -/
def ownJam (tk : Taking) (selector number : Word) (s : State) : State × Result :=
  match readJam selector number with
  | none => refuse .badArg s
  | some t =>
    match s.jamOutput t with
    | .error code => refuse code s
    | .ok o =>
      if s.runs[o].isSome then refuse .busy s
      else match s.requestBurst o with
        | none => refuse .busy s
        | some s' =>
          let s' := s'.startRun o (.order tk.slot tk.again tk.late (!tk.again))
          if tk.again then accept s' else (s', .awaitsRun)

/-- R119: MARK_SET. -/
def ownMarkSet (a : MarkSetArgs) (s : State) : State × Result :=
  match readFin 16 a.input with
  | none => refuse .badArg s
  | some i =>
    match readMarkSet a s.marks[i].ignored with
    | none => refuse .badArg s
    | some m => accept (s.setMark i m)

/-- R128: GROUP_SET. -/
def ownGroupSet (a : TagArgs) (s : State) : State × Result :=
  match readFin 8 a.group with
  | none => refuse .badArg s
  | some g => accept (s.setGroup g { s.groups[g] with nextTag := a.tag })

/-- R183: the short reply of an opened take. -/
def openReply (number count : Nat) : Reply :=
  { w29 := num number, w30 := lo16 (BitVec.ofNat 32 count), w31 := hi16 (BitVec.ofNat 32 count) }

/-- R131: TAKE_OPEN. -/
def ownTakeOpen (tk : Taking) (a : TagArgs) (s : State) : State × Result :=
  match readFin 8 a.group with
  | none => refuse .badArg s
  | some g =>
    if !s.running then refuse .noClock s
    else if s.groups[g].isOpen then refuse .busy s
    else
      let opener : Opener := if tk.fired then .schedule tk.slot else .order tk.slot
      let t := s.newTake g opener a.tag
      acceptWith (openReply t.number t.openCount) (s.openTake g opener a.tag)

/-- R183: the short reply of a closed take and of an injected mark. -/
def takeReply (t : Take) : Reply := { w29 := num t.number, w30 := num t.markTotal, w31 := 0 }

/-- R134: TAKE_CLOSE. -/
def ownTakeClose (tk : Taking) (group : Word) (s : State) : State × Result :=
  match readFin 8 group with
  | none => refuse .badArg s
  | some g =>
    match s.groups[g].current with
    | none => refuse .notOpen s
    | some t => acceptWith (takeReply t)
        (s.closeTake g (if tk.fired then .schedule tk.slot else .order tk.slot))

/-- R126: MARK_INJECT. -/
def ownMarkInject (group kind : Word) (s : State) : State × Result :=
  match readFin 8 group with
  | none => refuse .badArg s
  | some g =>
    if !s.running then refuse .noClock s
    else match s.groups[g].current with
      | none => refuse .notOpen s
      | some t =>
        let m : Mark := { source := .inject, kind := kind, position := s.here }
        acceptWith (takeReply (Take.place m t))
          ((s.placeMark g m).report false (.mark .inject kind (singleGroup g) (s.storedSet g) 0))

/-! ## Queries (R180) -/

/-- R180: an answered query: its record waits with its completion, and the short reply gives its length and the words
that will be written. -/
def answer (area : Nat × Nat) (words : List Word) (s : State) : State × Result :=
  (s, .completes .done { w29 := num words.length, w30 := num (min words.length area.2), w31 := 0 }
    (some { address := area.1, capacity := area.2, words := words }))

/-- R24: QUERY_CLOCK. -/
def ownQueryClock (address capacity : Word) (s : State) : State × Result :=
  match readArea address capacity with
  | none => refuse .badArg s
  | some area => let s := s.closeClock; answer area (clockRecord s.clock s.here) s

/-- R85: QUERY_DEVICE. The named input's bad-word count is cleared. -/
def ownQueryDevice (a : QueryArgs) (s : State) : State × Result :=
  match readArea a.address a.capacity, readFin 16 a.subject with
  | some area, some d =>
    let t := s.rosterFirst
    match t.devices[d] with
    | none => refuse .noDevice s
    | some x =>
      let words := deviceRecord d x (x.settings.input.map fun i => t.inputs[i])
      match x.settings.input with
      | none => answer area words t
      | some i => answer area words (t.setInput i { t.inputs[i] with badWords := 0 })
  | _, _ => refuse .badArg s

/-- R146: QUERY_TAKE. -/
def ownQueryTake (a : QueryArgs) (s : State) : State × Result :=
  match readArea a.address a.capacity, readFin 8 a.subject with
  | some area, some g => answer area (takeRecord s.groups[g]) s
  | _, _ => refuse .badArg s

/-- R127: QUERY_MARK. The input's ignored count is cleared. -/
def ownQueryMark (a : QueryArgs) (s : State) : State × Result :=
  match readArea a.address a.capacity, readFin 16 a.subject with
  | some area, some i => answer area (markRecord i s.marks[i]) (s.setMark i { s.marks[i] with ignored := 0 })
  | _, _ => refuse .badArg s

end State

end Sys2Proof.Machine
end

