-- ==== Sys2Proof/Machine/Schedule.lean ====
section
/-! DEFINITION. The Schedule and the Order Board scanner (08, 09 R169 to R173): the timing of orders, held entries, firings,
CANCEL, the stop, and the taking of filed slots. -/

namespace Sys2Proof.Machine

namespace State

/-! ## Entries -/

/-- R150: how far an entry's due frame lies ahead of a frame. -/
def Entry.ahead (now : FrameNo) (e : Entry) : Nat := (e.due - now).toNat

/-- R150: the order of entries: by due frame ahead, then by slot. -/
def Entry.before (now : FrameNo) (a b : Entry) : Bool :=
  decide (Entry.ahead now a < Entry.ahead now b) ||
    (decide (Entry.ahead now a = Entry.ahead now b) && decide (a.slot < b.slot))

/-- R150: an entry put in its place. -/
def insertEntry (now : FrameNo) (e : Entry) : List Entry → List Entry
  | [] => [e]
  | x :: rest => if Entry.before now e x then e :: x :: rest else x :: insertEntry now e rest

/-- The entry of a slot; no two entries name the same one. -/
def entryOf (s : State) (n : SlotId) : Option Entry := s.schedule.find? fun e => e.slot == n

/-- The entry of a slot leaves the Schedule. -/
def removeEntry (n : SlotId) (s : State) : State := s.setSchedule (s.schedule.filter fun e => e.slot != n)

/-- An entry joins the Schedule in its place. -/
def addEntry (e : Entry) (s : State) : State := s.setSchedule (insertEntry s.frame e s.schedule)

/-- R154: the slot still reads HELD with the entry's kind and a good kind check. -/
def slotIntact (s : State) (e : Entry) : Bool :=
  decide (s.slotWord e.slot 0 = SlotState.held) && decide (s.slotWord e.slot 2 = ~~~ s.slotWord e.slot 1) &&
    decide (s.slotWord e.slot 1 = e.kind)

/-- R154: a lost entry is removed and SLOT_LOST written; the slot is not written. -/
def loseEntry (e : Entry) (cause : LostCause) (s : State) : State :=
  let fired := (e.again.map fun r => r.fired).getD 0
  let missed := (e.again.map fun r => r.missed).getD 0
  (removeEntry e.slot s).report true
    (.slotLost e.slot cause e.kind (s.slotWord e.slot 0) (s.slotWord e.slot 1) (s.slotWord e.slot 2) e.due fired
      missed)

/-- R157, R183: the short reply of a REPEAT's completion: its first firing frame and its last result, 0 when absent. -/
def repeatReply : Option Repeating → Reply
  | none => Reply.zero
  | some r => Reply.wideThen (r.firstFiring.getD 0) ((r.lastResult.map ResultCode.code).getD 0)

/-- A slot's completion with the counts of its entry and the current frame (R156, R157, R159). -/
def completeEntry (n : SlotId) (code : ResultCode) (r : Option Repeating) (s : State) : State :=
  s.handCompletion { slot := n, code := code, frame := s.frame, fired := (r.map fun x => x.fired).getD 0
                     missed := (r.map fun x => x.missed).getD 0, reply := repeatReply r, record := none, fence := 0 }

/-- A slot's completion with a result of its owner and counts 0 (R155, R172, R173). -/
def completeSlot (n : SlotId) (code : ResultCode) (reply : Reply) (record : Option ReplyRecord) (s : State) : State :=
  s.handCompletion { slot := n, code := code, frame := s.frame, fired := 0, missed := 0, reply := reply
                     record := record, fence := 0 }

/-! ## CANCEL and the stop -/

/-- R157, R183: the short reply of a CANCEL. -/
def cancelReply (e : Entry) : Reply :=
  { w29 := num e.slot.val, w30 := num ((e.again.map fun r => r.fired).getD 0)
    w31 := num ((e.again.map fun r => r.missed).getD 0) }

/-- R157: CANCEL. -/
def ownCancel (target : Word) (s : State) : State × Result :=
  match readFin 64 target with
  | none => refuse .badArg s
  | some n =>
    match s.entryOf n with
    | none => refuse .notHeld s
    | some e =>
      if s.slotIntact e then
        acceptWith (cancelReply e) (completeEntry n .cancelled e.again (removeEntry n s))
      else refuse .notHeld (loseEntry e .cancel s)

/-- R159: an entry still held at the stop. -/
def stopEntry (e : Entry) (s : State) : State :=
  if s.slotIntact e then completeEntry e.slot .noClock e.again (removeEntry e.slot s) else loseEntry e .stop s

/-- R159: the stop empties the Schedule, in the Schedule's order. -/
def stopSchedule (s : State) : State := s.schedule.foldl (fun s e => stopEntry e s) s

/-- R42, R36, R72: ports, lines and outputs at the stop. -/
def stopPins (s : State) : State :=
  { s with ports := s.ports.map Port.stop, lines := s.lines.map Line.stop, outputs := s.outputs.map Output.stop }

/-- R114: every active run ends, in output order. -/
def stopRuns (s : State) : State := forEach 4 (endRun · .stop) s

/-- R114, R143: the runs that have ended at the n-th stop before a group's take closes: a free value (entry 28). -/
def stopRunsBefore (n : Nat) (g : GroupId) (s : State) : State :=
  forEach 4 (fun o s =>
    if s.runs[o].isSome && decide (o.val < Config.runsEndedBefore n g) then endRun o .stop s else s) s

/-- R143: the notice that the clock has left LOCKED, where it comes before a group's take closes at the n-th stop: a free
value (entry 28). -/
def stopUnlockedBefore (n : Nat) (g : GroupId) (s : State) : State :=
  if Config.unlockedBefore n g then s.giveUnlocked else s

/-- R143, R114: at the n-th stop the open takes close in group order. Between them runs end, in output order, and the notice
that the clock has left LOCKED is taken. -/
def stopTakes (n : Nat) (s : State) : State :=
  forEach 8 (fun g s => (stopUnlockedBefore n g (stopRunsBefore n g s)).closeTake g .clockStop) s

/-- R10: the n-th stop in every block that runs on picture time. -/
def stopBlocks (n : Nat) (s : State) : State := (stopTakes n s.stopPins).stopSchedule.stopRuns

/-- R9, R10, R170: the clock stops: F and tick freeze, CLOCK_STATE and the mirror are written, every block takes the
stop notice (in the order of R10, entry 5; takes, runs and the clock's notice in either order, entry 28), and the idle timer
starts from 0. -/
def stopClock (s : State) : State :=
  let n := s.uses.stops
  let s := s.closeClock
  let s := s.setClock { s.clock.halted with tick := s.here.tick }
  let s := (s.changeClock .stopped .stop none).writeMirror
  let s := (stopBlocks n s).giveUnlocked
  { s with scanner := { s.scanner with idle := 0 }, uses := { s.uses with stops := n + 1 } }

/-- R9: CLOCK_STOP. -/
def ownClockStop (s : State) : State × Result := if s.running then accept s.stopClock else refuse .noClock s

/-! ## Dispatch (R173) -/

/-- R173: an order is handed to the block that owns what it concerns. -/
def dispatch (tk : Taking) (o : Order) (s : State) : State × Result :=
  match o with
  | .clockStart a => s.ownClockStart a
  | .clockTune a => s.ownClockTune a
  | .clockStop => s.ownClockStop
  | .portSet a => s.ownPortSet a
  | .portOff p => s.ownPortOff p
  | .tallySet a => s.ownTallySet tk a
  | .outputSet a => s.ownOutputSet a
  | .userTable e => s.ownUserTable e
  | .inputSet a => s.ownInputSet a
  | .deviceEnrol a => s.ownDeviceEnrol a
  | .deviceDrop d => s.ownDeviceDrop d
  | .faultAck d => s.ownFaultAck d
  | .jam sel n => s.ownJam tk sel n
  | .markSet a => s.ownMarkSet a
  | .groupSet a => s.ownGroupSet a
  | .takeOpen a => s.ownTakeOpen tk a
  | .takeClose g => s.ownTakeClose tk g
  | .markInject g k => s.ownMarkInject g k
  | .cancel t => s.ownCancel t
  | .queryClock a c => s.ownQueryClock a c
  | .queryDevice a => s.ownQueryDevice a
  | .queryTake a => s.ownQueryTake a
  | .queryMark a => s.ownQueryMark a

/-- R148: DONE becomes DONE_LATE for an order carried out late within grace. -/
def lateCode (late : Bool) (code : ResultCode) : ResultCode :=
  if late && code == .done then .doneLate else code

/-- R148, R155, R173: a single order is carried out and completes with its owner's result, unless it waits for its
run's end. -/
def carryOut (tk : Taking) (o : Order) (s : State) : State :=
  match s.dispatch tk o with
  | (s', .completes code reply record) => completeSlot tk.slot (lateCode tk.late code) reply record s'
  | (s', .awaitsRun) => s'

/-- R156: whether a REPEAT's firing counts as fired, and the owner's result code. A started run counts as fired. -/
def Result.code : Result → ResultCode
  | .completes code _ _ => code
  | .awaitsRun => .done

/-- R156: a firing is counted in its entry's items. -/
def Repeating.count (r : Repeating) (first : FrameNo) (code : ResultCode) : Repeating :=
  { r with fired := if code = .done then bump r.fired else r.fired
           missed := if code = .done then r.missed else bump r.missed
           firstFiring := some (r.firstFiring.getD first), lastResult := some code
           left := r.left.map fun n => n - 1 }

/-- R149, R156: a counted REPEAT either completes its slot or waits for its next due frame. -/
def settleRepeat (e : Entry) (r : Repeating) (s : State) : State :=
  if r.left = some 0 then completeEntry e.slot (if r.late then .doneLate else .done) (some r) s
  else addEntry { e with due := e.due + BitVec.ofNat 32 r.interval, again := some r } s

/-! ## Timing (8.1) -/

/-- R147: the timings. -/
inductive When where
  | atOnce
  | atFrame
  | again
deriving DecidableEq, Repr

/-- R147: which timings a kind allows. -/
def allows (o : Order) (w : When) : Bool :=
  match w with
  | .atOnce => true
  | .atFrame =>
    match o with
    | .clockStart _ | .cancel _ | .queryClock _ _ | .queryDevice _ | .queryTake _ | .queryMark _ => false
    | _ => true
  | .again =>
    match o with
    | .tallySet _ | .jam _ _ | .markInject _ _ => true
    | _ => false

/-- R147: the timing of an order; none where it is refused BAD_ARG. -/
def readWhen (t : Timing) (o : Order) : Option When :=
  let w? : Option When := if t.timing = 0 then some .atOnce else if t.timing = 1 then some .atFrame
    else if t.timing = 2 then some .again else none
  w?.filter fun w => allows o w && !(w == .again && t.interval == 0)

/-- R151: an order is held: refused SCHEDULE_FULL with 32 entries, else its slot is written HELD and the entry
joins. -/
def holdOrder (e : Entry) (s : State) : State :=
  if 32 ≤ s.schedule.length then completeSlot e.slot .scheduleFull Reply.zero none s
  else addEntry e (s.putSlotState e.slot SlotState.held)

/-- R149: a REPEAT as it stands when it is taken. -/
def Repeating.fresh (t : Timing) : Repeating :=
  { interval := t.interval.toNat, left := if t.count = 0 then none else some t.count.toNat, fired := 0, missed := 0
    firstFiring := none, lastResult := none, late := false }

/-- R149: the occurrences passed over are missed, as far as the count goes. -/
def Repeating.passOver (r : Repeating) (n : Nat) (due : FrameNo) : Repeating :=
  let k := min n (r.left.getD n)
  { r with missed := r.missed + k, left := r.left.map fun c => c - k
           firstFiring := if k = 0 then r.firstFiring else some due }

/-- R149: a REPEAT taken at or after its due frame, within grace. -/
def takeLateRepeat (n : SlotId) (t : Timing) (o : Order) (lateness : Nat) (s : State) : State :=
  let passed := lateness / t.interval.toNat
  let late := decide (0 < lateness)
  let r := Repeating.passOver { Repeating.fresh t with late := late } passed t.due
  if r.left = some 0 then completeEntry n .doneLate (some r) s
  else if r.left ≠ some 1 ∧ 32 ≤ s.schedule.length then completeSlot n .scheduleFull Reply.zero none s
  else
    let (s', result) := s.dispatch { slot := n, fired := false, again := true, late := late } o
    let r := Repeating.count r t.due (Result.code result)
    let e : Entry := { slot := n, kind := orderKind o
                       due := t.due + BitVec.ofNat 32 (passed * t.interval.toNat), again := some r }
    settleRepeat e r (if r.left = some 0 then s' else s'.putSlotState n SlotState.held)

/-- R147 to R149: an order taken by the scanner from a slot whose kind is good: refused, held, or carried out. -/
def judgeOrder (n : SlotId) (t : Timing) (o : Order) (s : State) : State :=
  match readWhen t o with
  | none => completeSlot n .badArg Reply.zero none s
  | some .atOnce => carryOut { slot := n, fired := false, again := false, late := false } o s
  | some w =>
    let lateness := frameDiff s.frame t.due
    if !s.running then completeSlot n .noClock Reply.zero none s
    else if lateness < 0 then
      holdOrder { slot := n, kind := orderKind o, due := t.due
                  again := if w = .again then some (Repeating.fresh t) else none } s
    else if (s.lateGrace : Int) < lateness then completeSlot n .tooLate Reply.zero none s
    else if w = .again then takeLateRepeat n t o lateness.toNat s
    else carryOut { slot := n, fired := false, again := false, late := decide (0 < lateness) } o s

/-! ## The scanner takes a slot (R172) -/

/-- A completion for this slot among queue items. -/
def QueueItem.completes (n : SlotId) : QueueItem → Bool
  | .completion c => c.slot == n
  | .report _ => false

/-- R172: a run whose order's slot is taken afresh hands no completion. -/
def Run.disown (n : SlotId) (r : Run) : Run :=
  match r.origin with
  | .order m again late owed => { r with origin := .order m again late (owed && m != n) }
  | .auto => r

/-- R172: a completion still owed to the slot is discarded. -/
def discardOwed (n : SlotId) (s : State) : State :=
  { s with writer := { s.writer with queue := s.writer.queue.filter fun i => !QueueItem.completes n i }
           runs := s.runs.map fun r => r.map (Run.disown n) }

/-- R152, R172 step 1: a held slot taken afresh loses its entry, and a completion owed is discarded. -/
def retake (n : SlotId) (s : State) : State :=
  discardOwed n (match s.entryOf n with
    | some e => loseEntry e .retaken s
    | none => s)

/-- R172 steps 1 and 2. -/
def beginTake (n : SlotId) (s : State) : State := (retake n s).putSlotState n SlotState.taken

/-- The timing words of a slot (10.3). -/
def slotTiming (s : State) (n : SlotId) : Timing :=
  { timing := s.slotWord n 3, due := wide (s.slotWord n 4) (s.slotWord n 5), interval := s.slotWord n 6
    count := s.slotWord n 7 }

/-- R172 steps 3 to 7: the slot is read, its kind checked, and its order judged. -/
def judgeSlot (n : SlotId) (s : State) : State :=
  if s.slotWord n 2 ≠ ~~~ s.slotWord n 1 then completeSlot n .malformed Reply.zero none s
  else match readOrder (s.slotWord n 1) (s.slotWord n) with
    | none => completeSlot n .unknownKind Reply.zero none s
    | some o => judgeOrder n (s.slotTiming n) o s

/-- R171, R172: the scanner looks at a slot, and takes it when it is FILED. -/
def lookAt (n : SlotId) (s : State) : State :=
  if s.slotWord n 0 = SlotState.filed then judgeSlot n (beginTake n s) else s

/-- R171, R170: the scan point moves on; after slot 63 the scan ends, and begins again when a request is pending. -/
def Scanner.next (x : Scanner) (n : SlotId) : Scanner :=
  if h : n.val + 1 < 64 then { x with point := some ⟨n.val + 1, h⟩ }
  else if x.requested then { x with point := some 0, requested := false }
  else { x with point := none }

/-- R171: one look of the running scan. -/
def scanLook (s : State) : State :=
  match s.scanner.point with
  | none => s
  | some n =>
    let s := lookAt n s
    s.setScanner (Scanner.next s.scanner n)

/-- R171: a number of looks, as long as a scan runs. -/
def scanLooks : Nat → State → State
  | 0, s => s
  | k + 1, s => scanLooks k s.scanLook

/-- The host files an order in a slot: words 1 to 23, and the state word FILED last (R169, "Filing an order"). -/
def fileOrder (n : SlotId) (t : Timing) (o : Order) (s : State) : State :=
  (s.putWords (Address.slot n + 1) (orderWords t o)).putSlotState n SlotState.filed

/-- An order's own row (entry 6): the host files the order in a slot and the scanner takes it at this instant. While
READY is 0 the host's writes are ignored and nothing is taken (R164). -/
def takeOrder (n : SlotId) (t : Timing) (o : Order) (s : State) : State :=
  if s.bus.ready then judgeOrder n t o (beginTake n (fileOrder n t o s)) else s

/-! ## Firing (8.3) -/

/-- R153: the entry fires at this boundary: it is due now, and no entry of a lower slot is. -/
def firingDue (s : State) (n : SlotId) : Bool :=
  s.running && (s.entryOf n).any (fun e => e.due == s.frame) &&
    !(s.schedule.any fun e => e.due == s.frame && decide (e.slot < n))

/-- R155, R156: an entry whose slot is intact is carried out from the slot as it stands. -/
def fireEntry (e : Entry) (o : Order) (s : State) : State :=
  match e.again with
  | none =>
    carryOut { slot := e.slot, fired := true, again := false, late := false } o
      ((removeEntry e.slot s).putSlotState e.slot SlotState.taken)
  | some r =>
    let (s', result) := s.dispatch { slot := e.slot, fired := true, again := true, late := r.late } o
    settleRepeat e (Repeating.count r s.frame (Result.code result)) (removeEntry e.slot s')

/-- R153, R154: the firing of a slot's entry. A slot that passes R154 holds the kind the entry does, so its order
reads. -/
def fire (n : SlotId) (s : State) : State :=
  match s.entryOf n with
  | none => s
  | some e =>
    if s.slotIntact e then
      match readOrder (s.slotWord n 1) (s.slotWord n) with
      | some o => fireEntry e o s
      | none => loseEntry e .firing s
    else loseEntry e .firing s

end State

end Sys2Proof.Machine
end

