-- ==== Sys2Proof/Machine/Pins.lean ====
section
/-! DEFINITION. The pins the stage drives (11_pins_and_ratings): how HREF, MARK and TWI pins are sampled and what their
edges do (R187), and what RESET# and the supply do (R188). -/

namespace Sys2Proof.Machine

/-! ## Sampled pins (R187) -/

/-- The stage drives the pin to a level. -/
def Pin.drive (p : Pin) (level : Bool) : Pin := { p with driven := level }

/-- R187: one reference tick samples the pin. -/
def Pin.sample (p : Pin) : Pin :=
  { p with samples := if p.driven = p.level then 0 else min 3 (p.samples + 1) }

/-- R187: this is the third consecutive reference tick that has sampled the new level. -/
def Pin.edgeDue (p : Pin) : Bool := decide (3 ≤ p.samples)

/-- R187: the change of level is taken. -/
def Pin.taken (p : Pin) : Pin := { p with level := !p.level, samples := 0 }

/-- R187: one reference tick samples every pin. -/
def Pins.sample (p : Pins) : Pins :=
  { href := p.href.sample, marks := p.marks.map Pin.sample, words := p.words.map Pin.sample }

/-- R188: one reference tick passes at RESET#, and at the supply once it is within its limits. -/
def Hold.tick (h : Hold) : Hold :=
  { h with lowFor := if h.low then min 16 (h.lowFor + 1) else h.lowFor
           powerLeft := if h.supply then h.powerLeft - 1 else h.powerLeft }

/-- HREF driven to a level. -/
def Pins.driveHref (p : Pins) (level : Bool) : Pins := { p with href := p.href.drive level }
/-- A MARK pin driven to a level. -/
def Pins.driveMark (p : Pins) (i : MarkId) (level : Bool) : Pins :=
  { p with marks := p.marks.set i (p.marks[i].drive level) }
/-- A TWI pin driven to a level. -/
def Pins.driveWord (p : Pins) (i : InputId) (level : Bool) : Pins :=
  { p with words := p.words.set i (p.words[i].drive level) }

/-- HREF's change of level taken. -/
def Pins.takeHref (p : Pins) : Pins := { p with href := p.href.taken }
/-- A MARK pin's change of level taken. -/
def Pins.takeMark (p : Pins) (i : MarkId) : Pins := { p with marks := p.marks.set i p.marks[i].taken }
/-- A TWI pin's change of level taken. -/
def Pins.takeWord (p : Pins) (i : InputId) : Pins := { p with words := p.words.set i p.words[i].taken }

namespace State

/-- R170: a scan requested within a frame takes its orders within it: the running scan is brought to its end, with the
one that a pending request begins. -/
def endScan (s : State) : State := scanLooks 128 s

/-- R11, R187: HREF's change of level is taken. A rise is an arrival, which finds the clock's boundary made (R12); one that
crash-locks cuts the frame, so the frame's scans end first (R170). -/
def hrefEdge (s : State) : State :=
  let rise := !s.pins.href.level
  let s := s.setPins s.pins.takeHref
  if rise then
    let s := s.closeClock
    (if s.crashDue then s.endScan else s).arrival
  else s

/-- R20, R21: HREF's change of level is due and is an arrival that may crash-lock; a take that is open now may yet close at this
instant, before the arrival. A frame that it cuts ends before this picture tick, so what falls on the tick by its number is
no part of that frame. -/
def mayCut (s : State) : Bool :=
  s.pins.href.edgeDue && !s.pins.href.level && (s.setPins s.pins.takeHref).closeClock.crashPossible

/-- R120, R187: a MARK pin's change of level is taken: a rise to high, a fall to low. -/
def markPinEdge (i : MarkId) (s : State) : State :=
  markEdge i (!s.pins.marks[i].level) (s.setPins (s.pins.takeMark i))

/-- R76, R187: a TWI pin's change of level is taken; a disabled input takes nothing from it. -/
def wordPinEdge (i : InputId) (s : State) : State :=
  let s := s.setPins (s.pins.takeWord i)
  if s.inputs[i].enable then s.setInput i s.inputs[i].levelChange else s

/-! ## RESET# and the supply (R188) -/

/-- R188: RESET# has been low long enough for a hard reset: 16 reference ticks, or fewer where the free value of entry 8
says so. -/
def resetBegins (s : State) : Bool :=
  s.hold.low && !s.hold.held &&
    (decide (16 ≤ s.hold.lowFor) || decide (Config.resetTicks s.uses.resets ≤ s.hold.lowFor))

/-- R188: the hard reset ends: RESET# is high, and the supply is within its limits and has been for 1,024 reference ticks since
power-on. -/
def resetEnds (s : State) : Bool := s.hold.held && !s.hold.low && s.hold.supply && decide (s.hold.powerLeft = 0)

end State

end Sys2Proof.Machine
end

