-- ==== Sys2Proof/Machine/Flags.lean ====
section
/-! DEFINITION. What is computed from the state and never stored: the reasons of ATTN and INT# (R167, R168), what a host
read returns (R161, R164, R165), the levels of the output pins (R29, R37, R58), and what the
host's data pins carry (R188). -/

namespace Sys2Proof.Machine

namespace State

/-- R167: REPORTS is present when unread is at the notice level or above. Every reason is absent until READY is 1. -/
def attnReports (s : State) : Bool := s.bus.ready && decide (s.noticeLevel ≤ s.unread)
/-- R167, R178: COUNT_FAULT is present when unread exceeds 1,024. -/
def attnCountFault (s : State) : Bool := s.bus.ready && decide (1024 < s.unread)

/-- R167, 10.2: the set of ATTN reasons: REPORTS, URGENT, COUNT_FAULT and CLOCK at bits 0 to 3. -/
def attn (s : State) : BitVec 4 :=
  BitVec.ofBool s.writer.clock ++ BitVec.ofBool s.attnCountFault ++ BitVec.ofBool s.writer.urgent ++
    BitVec.ofBool s.attnReports

/-- R168: INT# is asserted (low) while READY is 1 and a reason present is in the mask. -/
def intAsserted (s : State) : Bool := s.bus.ready && decide (s.attn &&& s.attentionMask ≠ 0)

/-- R161, R164, R165: what a host read of an address returns. It changes nothing (R167). -/
def hostRead (s : State) (a : Word) : Word :=
  if !s.bus.ready then 0
  else if a.toNat < Address.storeEnd then s.word a.toNat
  else if a.toNat = Address.ident then 0x0740
  else if a.toNat = Address.attn then s.attn.setWidth 16
  else 0

/-- R29: the level of a PORT pin: low while the port is inactive or the clock STOPPED. -/
def portPin (s : State) (i : PortId) : Bool :=
  match s.ports[i].active with
  | some p => s.running && (s.ports[i].level != p.invert)
  | none => false

/-- R37: the level of a TALLY pin: low while the clock is STOPPED. -/
def tallyPin (s : State) (i : LineId) : Bool := s.running && (s.lines[i].level != s.lines[i].invert)

/-- R57, R58: the level of a TWO pin. -/
def outputPin (s : State) (o : OutputId) : Bool := s.outputs[o].level

/-- R188, R161: what D15 to D0 carry while the host reads an address, or reads nothing: they are driven only by a read, and
not at all while a hard reset holds. -/
def dataBus (s : State) (read : Option Word) : Option Word := if s.hold.held then none else read.map s.hostRead

end State

end Sys2Proof.Machine
end

