-- ==== Sys2Proof/Machine/Writer.lean ====
section
/-! DEFINITION. The Report Writer, the store initialisation, the resets and the host bus (09). -/

namespace Sys2Proof.Machine

namespace State

/-! ## Writing reports and completions -/

/-- R175 steps 1 to 5: a report is written into the log. -/
def writeRecord (r : Report) (s : State) : State :=
  let w := s.writer
  let s := s.putWords (Address.record (w.written.toNat % 1024)) (reportWords w.sequence r)
  let s := s.setWriter { s.writer with sequence := w.sequence + 1, written := w.written + 1
                                       urgent := w.urgent || r.urgent }
  s.putWord Address.writtenCount s.writer.written

/-- R176: LOG_GAP is written when reports have been dropped since the last one and the log has room. -/
def writeGap (s : State) : State :=
  if 0 < s.writer.gap ∧ s.logRoom then
    let s := writeRecord { position := s.here, urgent := true, body := .logGap s.writer.gap s.writer.dropped } s
    s.setWriter { s.writer with gap := 0 }
  else s

/-- R175, R176: the report at the head of the queue, already taken from it, is written or dropped. -/
def placeReport (r : Report) (s : State) : State :=
  let s := s.writeGap
  if s.logRoom then writeRecord r s else s.countDrop

/-- R180: a query's reply record is written up to its capacity. -/
def writeReply (r : Option ReplyRecord) (s : State) : State :=
  match r with
  | none => s
  | some x => s.putWords x.address (x.words.take x.capacity)

/-- 10.3: words 24 to 31 of a completed slot. -/
def resultWords (c : Completion) : List Word :=
  [c.code.code] ++ wide32 c.frame ++ [num c.fired, num c.missed, c.reply.w29, c.reply.w30, c.reply.w31]

/-- R177: a completion is written: the reply record, the result words, and last the state word. -/
def placeCompletion (c : Completion) (s : State) : State :=
  ((writeReply c.record s).putWords (Address.slot c.slot + 24) (resultWords c)).putSlotState c.slot c.code.slotState

/-- R175: a report is at the head of the output queue and the writer works. -/
def reportWrite (s : State) : State :=
  match s.writer.queue with
  | .report r :: rest => if s.bus.ready then placeReport r (s.setWriter { s.writer with queue := rest }) else s
  | _ => s

/-- R177: a completion is at the head of the output queue and the writer works. -/
def completionWrite (s : State) : State :=
  match s.writer.queue with
  | .completion c :: rest =>
    if s.bus.ready then placeCompletion c (s.setWriter { s.writer with queue := rest }) else s
  | _ => s

/-! ## The host bus (R161, R163, R165) -/

/-- R163, R176: a write to the read count, which makes the log's room be judged again. One that makes room brings a LOG_GAP
that is owed. -/
def writeReadCount (v : Word) (s : State) : State :=
  if s.bus.ready then
    let t := s.putWord Address.readCount v
    if s.logRoom then t else t.writeGap
  else s

/-- R161: a host write to a word of the store, ignored while READY is 0. -/
def writeStore (a : Nat) (v : Word) (s : State) : State := if s.bus.ready then s.putWord a v else s

/-- R165, R170: a write to NUDGE. -/
def writeNudge (s : State) : State := if s.bus.ready then s.scanRequest else s

/-- R165, R167: a 1 in the places of URGENT and CLOCK clears those reasons. -/
def clearReasons (urgent clock : Bool) (s : State) : State :=
  if s.bus.ready then
    s.setWriter { s.writer with urgent := s.writer.urgent && !urgent, clock := s.writer.clock && !clock }
  else s

/-! ## Resets and the store initialisation -/

/-- R166, R188: every block at its hard-reset values, the hard reset in force. The pins and RESET# are the stage's, and the
queue and the counters of free values the model's. -/
def beginReset (s : State) : State :=
  { State.reset with
    pins := s.pins, hold := { s.hold with held := true }, uses := s.uses, pending := s.pending }

/-- R164, R188: the hard reset ends, and the store initialisation begins. -/
def endReset (s : State) : State := s.setHold { s.hold with held := false }

/-- R145: the TAKE_CLOSED report a soft reset makes of a group's open take. -/
def resetTakeReport (s : State) (g : GroupId) : List Report :=
  match s.groups[g].current with
  | some t => [{ position := s.here, urgent := false, body := takeClosedBody g .reset t }]
  | none => []

/-- R100: the DEVICE_STATE report a soft reset makes of a JAMMING device. -/
def resetDeviceReport (s : State) (d : DeviceId) : List Report :=
  match s.devices[d] with
  | some x =>
    if x.state = .jamming then
      [{ position := s.here, urgent := false
         body := .deviceState d (some .jamming) (some .acquiring) .reset x.strikes none 0 }]
    else []
  | none => []

/-- R166: the reset's own reports, in the order in which they are accepted when the initialisation ends. -/
def resetReports (s : State) : List Report :=
  (List.finRange 8).flatMap s.resetTakeReport ++ (List.finRange 16).flatMap s.resetDeviceReport

/-- R118, R145: a mark input at a soft reset. -/
def MarkInput.softReset (m : MarkInput) : MarkInput := { m with reArm := none, remaining := m.quiet, silent := 0 }

/-- R145: a group at a soft reset. -/
def resetGroup (s : State) (g : Group) : Group :=
  match g.current with
  | some t => { g with take := some (s.closedTake .reset t) }
  | none => g

/-- R166: a soft reset, in every block. -/
def softReset (s : State) : State :=
  { s with
    ports := s.ports.map Port.clearPending
    lines := s.lines.map Line.softReset
    outputs := s.outputs.map Output.softReset
    devices := s.devices.map fun x => x.map Device.softReset
    runs := Vector.replicate 4 none
    marks := s.marks.map MarkInput.softReset
    groups := s.groups.map s.resetGroup
    schedule := []
    scanner := Scanner.reset
    writer := { Writer.reset with own := s.resetReports }
    bus := { ready := false, initLeft := 320, hard := false } }

/-- R165: a write to RESET: the value 1 makes a soft reset while READY is 1. -/
def writeReset (v : Word) (s : State) : State := if s.bus.ready ∧ v = 1 then s.softReset else s

/-- R162: the 256 header words as the initialisation writes them, the mirrors from the clock as it then stands. -/
def headerWords (s : State) : List Word :=
  [0x5043, 1, if s.bus.hard then 1 else 2, s.writer.written, num s.writer.dropped, lo16 s.frame, hi16 s.frame,
    s.clock.state.code] ++ List.replicate 8 0 ++ [0, 1, 0, 0] ++ List.replicate 236 0

/-- R164: every slot's state word is FREE. -/
def freeSlots (s : State) : State := forEach 64 (fun n s => s.putSlotState n SlotState.free) s

/-- R164: the writes of the initialisation. -/
def initStore (s : State) : State :=
  (if s.bus.hard then { s with store := [] } else s.freeSlots).putWords 0 s.headerWords

/-- R166: what waited for READY is accepted in the order handed. -/
def acceptItem (s : State) (i : QueueItem) : State :=
  match i with
  | .report r => s.acceptReport r
  | .completion c => s.acceptCompletion c

/-- R166, R174: the reset's own reports are accepted first, then what was handed meanwhile. -/
def acceptKept (s : State) : State :=
  let own := s.writer.own
  let kept := s.writer.kept
  let s := s.setWriter { s.writer with own := [], kept := [] }
  kept.foldl acceptItem (own.foldl acceptReport s)

/-- R170: a request made before READY begins a scan. -/
def beginPendingScan (s : State) : State :=
  if s.scanner.requested then s.setScanner { s.scanner with requested := false, point := some 0 } else s

/-- R164: the initialisation has made its last write. -/
def initDue (s : State) : Bool := !s.bus.ready && decide (s.bus.initLeft = 0)

/-- R164: the end of the initialisation. -/
def initialisationEnd (s : State) : State :=
  let s := { s.initStore with bus := { s.bus with ready := true } }
  (s.acceptKept.setScanner { s.scanner with idle := 0 }).beginPendingScan

/-- R161, R163, R165: a host write of a value to an address, by what stands there. -/
def hostWrite (a v : Word) (s : State) : State :=
  let n := a.toNat
  if n = Address.readCount then writeReadCount v s
  else if n < Address.storeEnd then writeStore n v s
  else if n = Address.attn then clearReasons (v.getLsbD 1) (v.getLsbD 3) s
  else if n = Address.nudge then s.writeNudge
  else if n = Address.reset then writeReset v s
  else s

end State

end Sys2Proof.Machine
end

