-- ==== Sys2Proof/Machine/Time.lean ====
section
/-! DEFINITION. How time passes: the events that come due at an instant, one reference tick (R1, R14), the ticks a
command waits, and what the part does with no command (entries 2 and 3). -/

namespace Sys2Proof.Machine

/-- The events the part makes of its own accord at an instant. A frame boundary is the passing of the last tick and so
is no event of an instant. -/
inductive Due where
  | hrefMissing
  | holdoverExpiry
  | tallyPulseEnd (i : LineId)
  | unlockedNotice
  | silenceCount
  | silence (d : DeviceId)
  | automaticCheck
  | initialisationEnd
  | idleTimer
  | latchReArm (i : MarkId)
  | portApply (i : PortId)
  | verifyExpiry (o : OutputId)
  | firing (n : SlotId)
  | wordBoundary (o : OutputId)
  | pulseEnd (i : PortId)
  | unitEvent (i : PortId)
  | cellStart (o : OutputId)
  | lineQuiet (i : InputId)
  | wordArrival (i : InputId)
  | resetBegins
  | resetEnds
  | hrefEdge
  | levelChange (i : InputId)
  | markEdge (i : MarkId)
deriving DecidableEq, Repr

namespace State

/-- R170: the idle timer has reached 2^20 reference ticks. -/
def idleDue (s : State) : Bool := s.bus.ready && !s.running && decide (2 ^ 20 ≤ s.scanner.idle)

/-- R170: the idle timer's expiry: a scan request, and the timer starts again. -/
def idleExpiry (s : State) : State := (s.setScanner { s.scanner with idle := 0 }).scanRequest

/-- R76, R77: line quiet at an input. -/
def lineQuiet (i : InputId) (s : State) : State := s.setInput i s.inputs[i].lose

/-- The event is due now. The events that fall on a picture tick of a frame, by their number in a cadence or a word, wait for
an arrival of that tick that may cut the frame before it (R21): they are not made if it does (R35, R71), and are due once the
crash lock is declined (R20). -/
def isDue (s : State) : Due → Bool
  | .hrefMissing => s.missingDue
  | .holdoverExpiry => s.holdoverDue
  | .tallyPulseEnd i => s.tallyPulseDue i
  | .unlockedNotice => s.owed.unlocked
  | .silenceCount => s.owed.count
  | .silence d => s.silenceDue d
  | .automaticCheck => s.owed.check
  | .initialisationEnd => s.initDue
  | .idleTimer => s.idleDue
  | .latchReArm i => s.reArmDue i
  | .portApply i => s.applyDue i
  | .verifyExpiry o => s.expiryDue o
  | .firing n => s.firingDue n
  | .wordBoundary o => s.wordDue o
  | .pulseEnd i => s.pulseDue i && !s.mayCut
  | .unitEvent i => s.eventDue i && !s.mayCut
  | .cellStart o => s.cellDue o && !s.mayCut
  | .lineQuiet i => s.inputs[i].quietDue
  | .wordArrival i => s.inputs[i].arrivalDue
  | .resetBegins => s.resetBegins
  | .resetEnds => s.resetEnds
  | .hrefEdge => s.pins.href.edgeDue
  | .levelChange i => s.pins.words[i].edgeDue
  | .markEdge i => s.pins.marks[i].edgeDue

/-- The event's effect. -/
def takeEvent : Due → State → State
  | .hrefMissing, s => s.hrefMissing
  | .holdoverExpiry, s => s.holdoverExpiry
  | .tallyPulseEnd i, s => tallyPulseEnd i s
  | .unlockedNotice, s => s.giveUnlocked
  | .silenceCount, s => s.counted
  | .silence d, s => enterSilent d s
  | .automaticCheck, s => s.checkOwed
  | .initialisationEnd, s => s.initialisationEnd
  | .idleTimer, s => s.idleExpiry
  | .latchReArm i, s => reArm i s
  | .portApply i, s => applyPort .cadence i s
  | .verifyExpiry o, s => verifyExpiry o s
  | .firing n, s => fire n s
  | .wordBoundary o, s => wordBoundary o s
  | .pulseEnd i, s => endPulse i s
  | .unitEvent i, s => unitEvent i s
  | .cellStart o, s => cellStart o s
  | .lineQuiet i, s => lineQuiet i s
  | .wordArrival i, s => wordArrival i s
  | .resetBegins, s => s.beginReset
  | .resetEnds, s => s.endReset
  | .hrefEdge, s => s.hrefEdge
  | .levelChange i, s => wordPinEdge i s
  | .markEdge i, s => markPinEdge i s

/-- An event is taken when it is due, and is nothing otherwise. -/
def takeIfDue (e : Due) (s : State) : State := if s.isDue e then takeEvent e s else s

/-- The tally pulses that end at a frame boundary. A line then follows its group's state at the end of the frame just ended
(R38, R39), so these come before any other command of the boundary's instant. -/
def pulseEvents : List Due := (List.finRange 8).map .tallyPulseEnd

/-- What belongs to the frame boundary itself (R12, R39, R96, R117), in the order in which the passing of time takes it. -/
def boundaryEvents : List Due :=
  [.hrefMissing, .holdoverExpiry] ++ pulseEvents ++ [.unlockedNotice, .silenceCount] ++
    (List.finRange 16).map .silence ++ [.automaticCheck]

/-- Every event, in the order in which those due at one instant are taken (entry 5). -/
def allEvents : List Due :=
  boundaryEvents ++ [.resetBegins, .resetEnds, .hrefEdge, .initialisationEnd, .idleTimer] ++ (List.finRange 16).map .latchReArm ++
    (List.finRange 12).map .portApply ++ (List.finRange 4).map .verifyExpiry ++ (List.finRange 64).map .firing ++
    (List.finRange 4).map .wordBoundary ++ (List.finRange 12).map .pulseEnd ++ (List.finRange 12).map .unitEvent ++
    (List.finRange 4).map .cellStart ++ (List.finRange 8).map .lineQuiet ++ (List.finRange 8).map .levelChange ++
    (List.finRange 8).map .wordArrival ++ (List.finRange 16).map .markEdge

/-- The first event that is due. -/
def nextEvent (s : State) : Option Due := allEvents.find? s.isDue

/-- The tally pulses that end at this frame boundary end (entry 4). -/
def endPulses (s : State) : State := pulseEvents.foldl (fun s e => takeIfDue e s) s

/-- Takes the events due now, one after another, up to a bound. -/
def settleFor : Nat → State → State
  | 0, s => s
  | k + 1, s =>
    match s.nextEvent with
    | some e => settleFor k (takeEvent e s)
    | none => s

/-- Takes the events due at this instant. No instant has as many events as the bound. -/
def settle (s : State) : State := settleFor 4096 s

/-! ## A reference tick -/

/-- R164, R170, R76, R187, R188: what counts reference ticks whether the clock runs or not. The initialisation waits for
the end of a hard reset that holds. -/
def countTick (s : State) : State :=
  { s with
    inputs := s.inputs.map Input.tick
    scanner := if s.bus.ready && !s.running then { s.scanner with idle := s.scanner.idle + 1 } else s.scanner
    bus := if s.bus.ready || s.hold.held then s.bus else { s.bus with initLeft := s.bus.initLeft - 1 }
    pins := s.pins.sample
    hold := s.hold.tick }

/-- R14: an insertion or a deletion falls at the picture tick, by the sign of the frame's correction. -/
def changesAt (s : State) (t : Nat) : Bool := isChangeTick s.ticks s.clock.correction t

/-- R1: the reference tick carries the next picture tick, the earlier of two where a deletion falls on it. -/
def nextPictureTick (s : State) : State :=
  let t := s.clock.tick + 1
  let phase := if decide (s.clock.correction < 0) && s.changesAt t then TickPhase.early else .single
  s.countPulses.setClock { s.clock with tick := t, phase := phase }

/-- R1: the later of the two picture ticks of a deletion comes into force. -/
def secondTick (s : State) : State :=
  s.countPulses.setClock { s.clock with tick := s.clock.tick + 1, phase := .late }

/-- R2: the tick is the frame's last. -/
def lastTick (s : State) : Bool := decide (s.ticks ≤ s.clock.tick + 1)

/-- R1: the picture tick in force is held over by an insertion that has not yet been made. -/
def holdsTick (s : State) : Bool :=
  decide (s.clock.phase = .single) && decide (0 < s.clock.correction) && s.changesAt s.clock.tick

/-- R1, R2: the picture time of the next reference tick. -/
def advancePicture (s : State) : State :=
  if !s.running then s
  else if s.holdsTick then s.setClock { s.clock with phase := .held }
  else if s.lastTick then s.passBoundary
  else s.nextPictureTick

/-- One reference tick begins. A frame boundary makes the clock's own part, the ports', lines' and outputs' here; what it owes
the takes, the roster and the Jam Controller may come after other events of its first tick (entry 4). -/
def beginTick (s : State) : State := s.countTick.advancePicture

/-- The rest of the current reference tick: the events due, the second picture tick of a deletion with its own, and, when
the frame ends with this tick, what is left of its scans (entry 3). -/
def finishTick (s : State) : State :=
  let s := s.settle
  let s := if s.clock.phase = .early then s.secondTick.settle else s
  if s.running && s.lastTick && !s.holdsTick then s.endScan.settle else s

/-- A number of reference ticks pass. -/
def pass : Nat → State → State
  | 0, s => s
  | k + 1, s => pass k s.finishTick.beginTick

/-- What the part does with no command waiting: the first event that is due; else a look of the running scan or the next
item of the output queue; else the rest of this reference tick or the beginning of the next one (entry 3). -/
def idle (s : State) : State :=
  match s.nextEvent with
  | some e => takeEvent e s
  | none =>
    if s.scanner.point.isSome then s.scanLook
    else if s.bus.ready && !s.writer.queue.isEmpty then s.reportWrite.completionWrite
    else if s.clock.phase = .early then s.secondTick
    else s.beginTick

/-- The state in which a command is taken: its wait has passed, and the tally pulses that end at a frame boundary have ended.
What else that boundary owes comes after the command, unless a row before it has taken it (entry 4). -/
def upTo (wait : Nat) (s : State) : State := endPulses (pass wait s)

/-- The state in which an event of a frame boundary is taken: its wait has passed. -/
def after (wait : Nat) (s : State) : State := pass wait s

end State

end Sys2Proof.Machine
end

