-- ==== Sys2Proof/Machine/BoardCommands.lean ====
section
/-! DEFINITION. The Schedule's, the scanner's and the Report Writer's commands, and the queries (08, 09). -/

namespace Sys2Proof.Machine

open State

/-- CANCEL (R157): the order is filed in its slot and taken from it. -/
def execCancel (wait : Nat) (slot : SlotId) (t : Timing) (target : Word) (s : State) : Host.Outcome State Fault Refusal :=
  .next (takeOrder slot t (.cancel target) (upTo wait s))

/-- QUERY_CLOCK (R24, R180): the order is filed in its slot and taken from it. -/
def execQueryClock (wait : Nat) (slot : SlotId) (t : Timing) (address capacity : Word) (s : State) : Host.Outcome State Fault Refusal :=
  .next (takeOrder slot t (.queryClock address capacity) (upTo wait s))

/-- QUERY_DEVICE (R85, R180): the order is filed in its slot and taken from it. -/
def execQueryDevice (wait : Nat) (slot : SlotId) (t : Timing) (a : QueryArgs) (s : State) : Host.Outcome State Fault Refusal :=
  .next (takeOrder slot t (.queryDevice a) (upTo wait s))

/-- QUERY_TAKE (R146, R180): the order is filed in its slot and taken from it. -/
def execQueryTake (wait : Nat) (slot : SlotId) (t : Timing) (a : QueryArgs) (s : State) : Host.Outcome State Fault Refusal :=
  .next (takeOrder slot t (.queryTake a) (upTo wait s))

/-- QUERY_MARK (R127, R180): the order is filed in its slot and taken from it. -/
def execQueryMark (wait : Nat) (slot : SlotId) (t : Timing) (a : QueryArgs) (s : State) : Host.Outcome State Fault Refusal :=
  .next (takeOrder slot t (.queryMark a) (upTo wait s))

/-- IDLE_TIMER_EXPIRY (R170): the idle timer has reached 2^20 reference ticks. It is taken when it is due, and is nothing otherwise. -/
def execIdleTimerExpiry (wait : Nat) (s : State) : Host.Outcome State Fault Refusal :=
  .next (takeIfDue .idleTimer (upTo wait s))

/-- SCAN (R171): the running scan looks at the given number of slots, and begins again while requests are pending. -/
def execScan (wait : Nat) (looks : Nat) (s : State) : Host.Outcome State Fault Refusal :=
  .next (scanLooks looks (upTo wait s))

/-- SCHEDULE_FIRING (R153): the entry's due frame has come and its turn with it. It is taken when it is due, and is nothing otherwise. -/
def execScheduleFiring (wait : Nat) (slot : SlotId) (s : State) : Host.Outcome State Fault Refusal :=
  .next (takeIfDue (.firing slot) (upTo wait s))

/-- REPORT_WRITE (R175, R176): the report at the head of the output queue is written or dropped. -/
def execReportWrite (wait : Nat) (s : State) : Host.Outcome State Fault Refusal :=
  .next ((upTo wait s).reportWrite)

/-- COMPLETION_WRITE (R177): the completion at the head of the output queue is written into its slot. -/
def execCompletionWrite (wait : Nat) (s : State) : Host.Outcome State Fault Refusal :=
  .next ((upTo wait s).completionWrite)


end Sys2Proof.Machine
end

