-- ==== Sys2Proof/Machine/ClockCommands.lean ====
section
/-! DEFINITION. The Picture Clock's events and orders (01). -/

namespace Sys2Proof.Machine

open State

/-- R2, R12: the reference tick passes that ends the frame, when the tick is its last; what the boundary owes is then done. At
another tick nothing passes, and what a boundary of this instant still owes is done. -/
def frameBoundary (s : State) : State :=
  let s' := s.finishTick
  (if s'.running && s'.lastTick && !s'.holdsTick then s'.beginTick else s).finishOwed

/-- FRAME_BOUNDARY (R12): the tick passes M - 1 while the clock runs. At an instant that no boundary falls on it is nothing. -/
def execFrameBoundary (wait : Nat) (s : State) : Host.Outcome State Fault Refusal :=
  .next (frameBoundary (upTo wait s))

/-- HREF_MISSING (R18): the missing run has reached 4 at this boundary. It is taken when it is due, and is nothing otherwise. -/
def execHrefMissing (wait : Nat) (s : State) : Host.Outcome State Fault Refusal :=
  .next (takeIfDue .hrefMissing (after wait s))

/-- HOLDOVER_EXPIRY (R19): the holdover count has reached its limit at this boundary. It is taken when it is due, and is nothing otherwise. -/
def execHoldoverExpiry (wait : Nat) (s : State) : Host.Outcome State Fault Refusal :=
  .next (takeIfDue .holdoverExpiry (after wait s))

/-- HREF_ARRIVAL (R11, R187): the stage drives HREF to a level; its edge is taken once three ticks have sampled it. -/
def execHrefArrival (wait : Nat) (level : Bool) (s : State) : Host.Outcome State Fault Refusal :=
  .next (takeIfDue .hrefEdge (upTo wait (s.setPins (s.pins.driveHref level))))

/-- CLOCK_START (R5, R6): the order is filed in its slot and taken from it. -/
def execClockStart (wait : Nat) (slot : SlotId) (t : Timing) (a : ClockStartArgs) (s : State) : Host.Outcome State Fault Refusal :=
  .next (takeOrder slot t (.clockStart a) (upTo wait s))

/-- CLOCK_TUNE (R7): the order is filed in its slot and taken from it. -/
def execClockTune (wait : Nat) (slot : SlotId) (t : Timing) (a : ClockTuneArgs) (s : State) : Host.Outcome State Fault Refusal :=
  .next (takeOrder slot t (.clockTune a) (upTo wait s))

/-- CLOCK_STOP (R9): the order is filed in its slot and taken from it. -/
def execClockStop (wait : Nat) (slot : SlotId) (t : Timing) (s : State) : Host.Outcome State Fault Refusal :=
  .next (takeOrder slot t (.clockStop) (upTo wait s))


end Sys2Proof.Machine
end

