-- ==== Sys2Proof/Machine/HostBus.lean ====
section
/-! DEFINITION. The host's writes over the bus (R161, R163, R165). -/

namespace Sys2Proof.Machine

open State

/-- NUDGE (R165, R170): a write of any value makes a scan request. -/
def execNudge (wait : Nat) (_value : Word) (s : State) : Host.Outcome State Fault Refusal :=
  .next (writeNudge (upTo wait s))

/-- ATTN_CLEAR_URGENT (R165): a 1 in the place of URGENT clears that reason. -/
def execAttnClearUrgent (wait : Nat) (s : State) : Host.Outcome State Fault Refusal :=
  .next (clearReasons true false (upTo wait s))

/-- ATTN_CLEAR_CLOCK (R165): a 1 in the place of CLOCK clears that reason. -/
def execAttnClearClock (wait : Nat) (s : State) : Host.Outcome State Fault Refusal :=
  .next (clearReasons false true (upTo wait s))

/-- REGISTER_WRITE (R161, R165): a host write to any address: ignored where nothing stands or acts, such as IDENT, laid down
in the store where a word of it stands, and otherwise what that register's own row does. -/
def execRegisterWrite (wait : Nat) (address value : Word) (s : State) : Host.Outcome State Fault Refusal :=
  .next (hostWrite address value (upTo wait s))

/-- READ_COUNT_WRITE (R163, R176): log room is judged again, and a LOG_GAP may be written. -/
def execReadCountWrite (wait : Nat) (value : Word) (s : State) : Host.Outcome State Fault Refusal :=
  .next (writeReadCount value (upTo wait s))

/-- NOTICE_LEVEL_WRITE (R163): REPORTS follows the new level, since it is computed from the word (R167). -/
def execNoticeLevelWrite (wait : Nat) (value : Word) (s : State) : Host.Outcome State Fault Refusal :=
  .next (writeStore Address.noticeLevel value (upTo wait s))

/-- ATTENTION_MASK_WRITE (R163, R168): INT# follows the new mask, since it is computed from the word. -/
def execAttentionMaskWrite (wait : Nat) (value : Word) (s : State) : Host.Outcome State Fault Refusal :=
  .next (writeStore Address.attentionMask value (upTo wait s))


end Sys2Proof.Machine
end

