-- ==== Sys2Proof/Machine/PortCommands.lean ====
section
/-! DEFINITION. The rate ports' and tally lines' orders and events (02). -/

namespace Sys2Proof.Machine

open State

/-- PORT_SET (R30, R31): the order is filed in its slot and taken from it. -/
def execPortSet (wait : Nat) (slot : SlotId) (t : Timing) (a : PortSetArgs) (s : State) : Host.Outcome State Fault Refusal :=
  .next (takeOrder slot t (.portSet a) (upTo wait s))

/-- PORT_OFF (R30, R31): the order is filed in its slot and taken from it. -/
def execPortOff (wait : Nat) (slot : SlotId) (t : Timing) (port : Word) (s : State) : Host.Outcome State Fault Refusal :=
  .next (takeOrder slot t (.portOff port) (upTo wait s))

/-- PORT_SETTING_APPLY (R33): the port's pending apply frame has come. It is taken when it is due, and is nothing otherwise. -/
def execPortSettingApply (wait : Nat) (port : PortId) (s : State) : Host.Outcome State Fault Refusal :=
  .next (takeIfDue (.portApply port) (upTo wait s))

/-- UNIT_EVENT (R28): the port's next unit event falls on the current picture tick, which no
crash lock can now take from the frame (R21, R35). It is taken when it is due, and is nothing otherwise. -/
def execUnitEvent (wait : Nat) (port : PortId) (s : State) : Host.Outcome State Fault Refusal :=
  .next (takeIfDue (.unitEvent port) (upTo wait s))

/-- PORT_PULSE_END (R29): the port's pulse has run its width, and no crash lock
can now cut it short (R29, R35). It is taken when it is due, and is nothing otherwise. -/
def execPortPulseEnd (wait : Nat) (port : PortId) (s : State) : Host.Outcome State Fault Refusal :=
  .next (takeIfDue (.pulseEnd port) (upTo wait s))

/-- TALLY_SET_SET (R39, R41): the order is filed in its slot and taken from it. -/
def execTallySetSet (wait : Nat) (slot : SlotId) (t : Timing) (line : Word) (s : State) : Host.Outcome State Fault Refusal :=
  .next (takeOrder slot t (.tallySet { line := line, action := 0, value := 0, invert := 0 }) (upTo wait s))

/-- TALLY_SET_CLEAR (R39, R41): the order is filed in its slot and taken from it. -/
def execTallySetClear (wait : Nat) (slot : SlotId) (t : Timing) (line : Word) (s : State) : Host.Outcome State Fault Refusal :=
  .next (takeOrder slot t (.tallySet { line := line, action := 1, value := 0, invert := 0 }) (upTo wait s))

/-- TALLY_SET_TOGGLE (R39, R41): the order is filed in its slot and taken from it. -/
def execTallySetToggle (wait : Nat) (slot : SlotId) (t : Timing) (line : Word) (s : State) : Host.Outcome State Fault Refusal :=
  .next (takeOrder slot t (.tallySet { line := line, action := 2, value := 0, invert := 0 }) (upTo wait s))

/-- TALLY_SET_PULSE (R39, R41): the order is filed in its slot and taken from it. -/
def execTallySetPulse (wait : Nat) (slot : SlotId) (t : Timing) (line count : Word) (s : State) : Host.Outcome State Fault Refusal :=
  .next (takeOrder slot t (.tallySet { line := line, action := 3, value := count, invert := 0 }) (upTo wait s))

/-- TALLY_SET_BIND (R40, R41): the order is filed in its slot and taken from it. -/
def execTallySetBind (wait : Nat) (slot : SlotId) (t : Timing) (line group invert : Word) (s : State) : Host.Outcome State Fault Refusal :=
  .next (takeOrder slot t (.tallySet { line := line, action := 4, value := group, invert := invert }) (upTo wait s))

/-- TALLY_SET_UNBIND (R40, R41): the order is filed in its slot and taken from it. -/
def execTallySetUnbind (wait : Nat) (slot : SlotId) (t : Timing) (line invert : Word) (s : State) : Host.Outcome State Fault Refusal :=
  .next (takeOrder slot t (.tallySet { line := line, action := 5, value := 0, invert := invert }) (upTo wait s))

/-- TALLY_SET_POLARITY (R40, R41): the order is filed in its slot and taken from it. -/
def execTallySetPolarity (wait : Nat) (slot : SlotId) (t : Timing) (line value : Word) (s : State) : Host.Outcome State Fault Refusal :=
  .next (takeOrder slot t (.tallySet { line := line, action := 6, value := value, invert := 0 }) (upTo wait s))

/-- TALLY_PULSE_END (R39): the line's pulse has counted down to 0 at this boundary. It is taken when it is due, and is nothing otherwise. -/
def execTallyPulseEnd (wait : Nat) (line : LineId) (s : State) : Host.Outcome State Fault Refusal :=
  .next (takeIfDue (.tallyPulseEnd line) (after wait s))


end Sys2Proof.Machine
end

