-- ==== Sys2Proof/Machine/Resets.lean ====
section
/-! DEFINITION. The resets and the store initialisation: HARD_RESET, SOFT_RESET, INITIALISATION_END. -/

namespace Sys2Proof.Machine

open State

/-- R188: what the stage does at RESET# or at the supply. A pulse that has been long enough resets before it ends. Power coming
on finds a hard reset in force, which holds until the supply is within its limits and then 1,024 reference ticks more
(entry 8). -/
def driveReset : ResetEvent → State → State
  | .assert, s => if s.hold.low then s else s.setHold { s.hold with low := true, lowFor := 0 }
  | .release, s =>
    if s.hold.low then
      let s := takeIfDue .resetBegins s
      { s with hold := { s.hold with low := false, lowFor := 0 }, uses := { s.uses with resets := s.uses.resets + 1 } }
    else s
  | .powerOn, s => s.beginReset.setHold { s.beginReset.hold with supply := false, powerLeft := 1024 }
  | .powerGood, s => s.setHold { s.hold with supply := true }

/-- HARD_RESET (R188): the stage acts, and as the ticks of the row's wait pass the hard reset takes hold or ends when its
rule says so. While it holds every block stands at its hard-reset values; when it ends the initialisation begins. -/
def execHardReset (wait : Nat) (event : ResetEvent) (s : State) : Host.Outcome State Fault Refusal :=
  .next (takeIfDue .resetEnds (takeIfDue .resetBegins (upTo wait (driveReset event s))))

/-- SOFT_RESET (R166): the host writes 1 to RESET. -/
def execSoftReset (wait : Nat) (s : State) : Host.Outcome State Fault Refusal :=
  .next (writeReset 1 (upTo wait s))

/-- INITIALISATION_END (R164): the store opens once its initialisation has made its last write. It is taken when it is
due, and is nothing otherwise. -/
def execInitialisationEnd (wait : Nat) (s : State) : Host.Outcome State Fault Refusal :=
  .next (takeIfDue .initialisationEnd (upTo wait s))

end Sys2Proof.Machine
end

