-- ==== Sys2Proof/Machine/RosterCommands.lean ====
section
/-! DEFINITION. The Device Roster's and the Jam Controller's orders and events (05 R81 to R100, 06). -/

namespace Sys2Proof.Machine

open State

/-- SILENCE (R96): the device's frames since its last valid word exceed its silence limit. It is taken when it is due, and is nothing otherwise. -/
def execSilence (wait : Nat) (device : DeviceId) (s : State) : Host.Outcome State Fault Refusal :=
  .next (takeIfDue (.silence device) (after wait s))

/-- DEVICE_ENROL (R82): the order is filed in its slot and taken from it. -/
def execDeviceEnrol (wait : Nat) (slot : SlotId) (t : Timing) (a : DeviceEnrolArgs) (s : State) : Host.Outcome State Fault Refusal :=
  .next (takeOrder slot t (.deviceEnrol a) (upTo wait s))

/-- DEVICE_DROP (R83): the order is filed in its slot and taken from it. -/
def execDeviceDrop (wait : Nat) (slot : SlotId) (t : Timing) (device : Word) (s : State) : Host.Outcome State Fault Refusal :=
  .next (takeOrder slot t (.deviceDrop device) (upTo wait s))

/-- FAULT_ACK (R84): the order is filed in its slot and taken from it. -/
def execFaultAck (wait : Nat) (slot : SlotId) (t : Timing) (device : Word) (s : State) : Host.Outcome State Fault Refusal :=
  .next (takeOrder slot t (.faultAck device) (upTo wait s))

/-- JAM (R103, R104): the order is filed in its slot and taken from it. -/
def execJam (wait : Nat) (slot : SlotId) (t : Timing) (selector number : Word) (s : State) : Host.Outcome State Fault Refusal :=
  .next (takeOrder slot t (.jam selector number) (upTo wait s))

/-- VERIFY_EXPIRY (R109): the expiry frame of the output's run has come. It is taken when it is due, and is nothing otherwise. -/
def execVerifyExpiry (wait : Nat) (output : OutputId) (s : State) : Host.Outcome State Fault Refusal :=
  .next (takeIfDue (.verifyExpiry output) (upTo wait s))


end Sys2Proof.Machine
end

