-- ==== Sys2Proof/Machine/TakeCommands.lean ====
section
/-! DEFINITION. The mark inputs' and the Take Table's orders and events (07). -/

namespace Sys2Proof.Machine

open State

/-- MARK_EDGE (R120, R187): after `lead` ticks the stage drives a MARK pin to a level; its edge is taken once three ticks
have sampled it. -/
def execMarkEdge (wait : Nat) (pin : MarkId) (level : Bool) (lead : Nat) (s : State) :
    Host.Outcome State Fault Refusal :=
  let s := after lead s
  .next (takeIfDue (.markEdge pin) (upTo wait (s.setPins (s.pins.driveMark pin level))))

/-- LATCH_RE_ARM (R121): the latch's re-arm frame has come. It is taken when it is due, and is nothing otherwise. -/
def execLatchReArm (wait : Nat) (pin : MarkId) (s : State) : Host.Outcome State Fault Refusal :=
  .next (takeIfDue (.latchReArm pin) (upTo wait s))

/-- MARK_SET (R119): the order is filed in its slot and taken from it. -/
def execMarkSet (wait : Nat) (slot : SlotId) (t : Timing) (a : MarkSetArgs) (s : State) : Host.Outcome State Fault Refusal :=
  .next (takeOrder slot t (.markSet a) (upTo wait s))

/-- MARK_INJECT (R126): the order is filed in its slot and taken from it. -/
def execMarkInject (wait : Nat) (slot : SlotId) (t : Timing) (group kind : Word) (s : State) : Host.Outcome State Fault Refusal :=
  .next (takeOrder slot t (.markInject group kind) (upTo wait s))

/-- GROUP_SET (R128): the order is filed in its slot and taken from it. -/
def execGroupSet (wait : Nat) (slot : SlotId) (t : Timing) (a : TagArgs) (s : State) : Host.Outcome State Fault Refusal :=
  .next (takeOrder slot t (.groupSet a) (upTo wait s))

/-- TAKE_OPEN (R131): the order is filed in its slot and taken from it. -/
def execTakeOpen (wait : Nat) (slot : SlotId) (t : Timing) (a : TagArgs) (s : State) : Host.Outcome State Fault Refusal :=
  .next (takeOrder slot t (.takeOpen a) (upTo wait s))

/-- TAKE_CLOSE (R134): the order is filed in its slot and taken from it. -/
def execTakeClose (wait : Nat) (slot : SlotId) (t : Timing) (group : Word) (s : State) : Host.Outcome State Fault Refusal :=
  .next (takeOrder slot t (.takeClose group) (upTo wait s))


end Sys2Proof.Machine
end

