-- ==== Sys2Proof/Machine/WordCommands.lean ====
section
/-! DEFINITION. The time word outputs' and inputs' orders and events (04, 05 R74 to R80). -/

namespace Sys2Proof.Machine

open State

/-- WORD_BOUNDARY (R61): the output has a word boundary to act on. It is taken when it is due, and is nothing otherwise. -/
def execWordBoundary (wait : Nat) (output : OutputId) (s : State) : Host.Outcome State Fault Refusal :=
  .next (takeIfDue (.wordBoundary output) (upTo wait s))

/-- OUTPUT_SET (R68): the order is filed in its slot and taken from it. -/
def execOutputSet (wait : Nat) (slot : SlotId) (t : Timing) (a : OutputSetArgs) (s : State) : Host.Outcome State Fault Refusal :=
  .next (takeOrder slot t (.outputSet a) (upTo wait s))

/-- USER_TABLE (R67): the order is filed in its slot and taken from it. -/
def execUserTable (wait : Nat) (slot : SlotId) (t : Timing) (entries : Vector Word 16) (s : State) : Host.Outcome State Fault Refusal :=
  .next (takeOrder slot t (.userTable entries) (upTo wait s))

/-- CELL_START (R57): the next cell of the word in progress begins at the current picture
tick, which no crash lock can now take from the frame (R21, R71). It is taken when it is due, and is nothing otherwise. -/
def execCellStart (wait : Nat) (output : OutputId) (s : State) : Host.Outcome State Fault Refusal :=
  .next (takeIfDue (.cellStart output) (upTo wait s))

/-- INPUT_SET (R75): the order is filed in its slot and taken from it. -/
def execInputSet (wait : Nat) (slot : SlotId) (t : Timing) (a : InputSetArgs) (s : State) : Host.Outcome State Fault Refusal :=
  .next (takeOrder slot t (.inputSet a) (upTo wait s))

/-- TIME_WORD_ARRIVAL (R78): bit 62's length has passed since the start of bit 63. It is taken when it is due, and is nothing otherwise. -/
def execTimeWordArrival (wait : Nat) (input : InputId) (s : State) : Host.Outcome State Fault Refusal :=
  .next (takeIfDue (.wordArrival input) (upTo wait s))

/-- LINE_QUIET (R76): 23,000 reference ticks have passed without a level change. It is taken when it is due, and is nothing otherwise. -/
def execLineQuiet (wait : Nat) (input : InputId) (s : State) : Host.Outcome State Fault Refusal :=
  .next (takeIfDue (.lineQuiet input) (upTo wait s))

/-- TWI_LEVEL_CHANGE (R76, R187): the stage drives a TWI pin to a level; the change is taken once three ticks have sampled
it. -/
def execTwiLevelChange (wait : Nat) (input : InputId) (level : Bool) (s : State) : Host.Outcome State Fault Refusal :=
  .next (takeIfDue (.levelChange input) (upTo wait (s.setPins (s.pins.driveWord input level))))


end Sys2Proof.Machine
end

