-- ==== Sys2Proof/Machine/Dispatch.lean ====
section
/-! DEFINITION. One arm for each command: a direct call of its meaning. -/

namespace Sys2Proof.Machine

def exec (i : Instr) (s : State) : Host.Outcome State Fault Refusal :=
  match i with
  | .hardReset wait event => Sys2Proof.Machine.execHardReset wait event s
  | .softReset wait => Sys2Proof.Machine.execSoftReset wait s
  | .initialisationEnd wait => Sys2Proof.Machine.execInitialisationEnd wait s
  | .nudge wait value => Sys2Proof.Machine.execNudge wait value s
  | .attnClearUrgent wait => Sys2Proof.Machine.execAttnClearUrgent wait s
  | .attnClearClock wait => Sys2Proof.Machine.execAttnClearClock wait s
  | .registerWrite wait address value => Sys2Proof.Machine.execRegisterWrite wait address value s
  | .readCountWrite wait value => Sys2Proof.Machine.execReadCountWrite wait value s
  | .noticeLevelWrite wait value => Sys2Proof.Machine.execNoticeLevelWrite wait value s
  | .attentionMaskWrite wait value => Sys2Proof.Machine.execAttentionMaskWrite wait value s
  | .frameBoundary wait => Sys2Proof.Machine.execFrameBoundary wait s
  | .hrefMissing wait => Sys2Proof.Machine.execHrefMissing wait s
  | .holdoverExpiry wait => Sys2Proof.Machine.execHoldoverExpiry wait s
  | .hrefArrival wait level => Sys2Proof.Machine.execHrefArrival wait level s
  | .clockStart wait slot t a => Sys2Proof.Machine.execClockStart wait slot t a s
  | .clockTune wait slot t a => Sys2Proof.Machine.execClockTune wait slot t a s
  | .clockStop wait slot t => Sys2Proof.Machine.execClockStop wait slot t s
  | .portSet wait slot t a => Sys2Proof.Machine.execPortSet wait slot t a s
  | .portOff wait slot t port => Sys2Proof.Machine.execPortOff wait slot t port s
  | .portSettingApply wait port => Sys2Proof.Machine.execPortSettingApply wait port s
  | .unitEvent wait port => Sys2Proof.Machine.execUnitEvent wait port s
  | .portPulseEnd wait port => Sys2Proof.Machine.execPortPulseEnd wait port s
  | .tallySetSet wait slot t line => Sys2Proof.Machine.execTallySetSet wait slot t line s
  | .tallySetClear wait slot t line => Sys2Proof.Machine.execTallySetClear wait slot t line s
  | .tallySetToggle wait slot t line => Sys2Proof.Machine.execTallySetToggle wait slot t line s
  | .tallySetPulse wait slot t line count => Sys2Proof.Machine.execTallySetPulse wait slot t line count s
  | .tallySetBind wait slot t line group invert => Sys2Proof.Machine.execTallySetBind wait slot t line group invert s
  | .tallySetUnbind wait slot t line invert => Sys2Proof.Machine.execTallySetUnbind wait slot t line invert s
  | .tallySetPolarity wait slot t line value => Sys2Proof.Machine.execTallySetPolarity wait slot t line value s
  | .tallyPulseEnd wait line => Sys2Proof.Machine.execTallyPulseEnd wait line s
  | .wordBoundary wait output => Sys2Proof.Machine.execWordBoundary wait output s
  | .outputSet wait slot t a => Sys2Proof.Machine.execOutputSet wait slot t a s
  | .userTable wait slot t entries => Sys2Proof.Machine.execUserTable wait slot t entries s
  | .inputSet wait slot t a => Sys2Proof.Machine.execInputSet wait slot t a s
  | .timeWordArrival wait input => Sys2Proof.Machine.execTimeWordArrival wait input s
  | .lineQuiet wait input => Sys2Proof.Machine.execLineQuiet wait input s
  | .silence wait device => Sys2Proof.Machine.execSilence wait device s
  | .deviceEnrol wait slot t a => Sys2Proof.Machine.execDeviceEnrol wait slot t a s
  | .deviceDrop wait slot t device => Sys2Proof.Machine.execDeviceDrop wait slot t device s
  | .faultAck wait slot t device => Sys2Proof.Machine.execFaultAck wait slot t device s
  | .jam wait slot t selector number => Sys2Proof.Machine.execJam wait slot t selector number s
  | .verifyExpiry wait output => Sys2Proof.Machine.execVerifyExpiry wait output s
  | .markEdge wait pin level lead => Sys2Proof.Machine.execMarkEdge wait pin level lead s
  | .latchReArm wait pin => Sys2Proof.Machine.execLatchReArm wait pin s
  | .markSet wait slot t a => Sys2Proof.Machine.execMarkSet wait slot t a s
  | .markInject wait slot t group kind => Sys2Proof.Machine.execMarkInject wait slot t group kind s
  | .groupSet wait slot t a => Sys2Proof.Machine.execGroupSet wait slot t a s
  | .takeOpen wait slot t a => Sys2Proof.Machine.execTakeOpen wait slot t a s
  | .takeClose wait slot t group => Sys2Proof.Machine.execTakeClose wait slot t group s
  | .cancel wait slot t target => Sys2Proof.Machine.execCancel wait slot t target s
  | .queryClock wait slot t address capacity => Sys2Proof.Machine.execQueryClock wait slot t address capacity s
  | .queryDevice wait slot t a => Sys2Proof.Machine.execQueryDevice wait slot t a s
  | .queryTake wait slot t a => Sys2Proof.Machine.execQueryTake wait slot t a s
  | .queryMark wait slot t a => Sys2Proof.Machine.execQueryMark wait slot t a s
  | .idleTimerExpiry wait => Sys2Proof.Machine.execIdleTimerExpiry wait s
  | .scan wait looks => Sys2Proof.Machine.execScan wait looks s
  | .scheduleFiring wait slot => Sys2Proof.Machine.execScheduleFiring wait slot s
  | .reportWrite wait => Sys2Proof.Machine.execReportWrite wait s
  | .completionWrite wait => Sys2Proof.Machine.execCompletionWrite wait s
  | .twiLevelChange wait input level => Sys2Proof.Machine.execTwiLevelChange wait input level s
  | .cellStart wait output => Sys2Proof.Machine.execCellStart wait output s

end Sys2Proof.Machine
end

