-- ==== Sys2Proof/Safety.lean ====
section
/-! DEFINITION. What counts as a sound state of the PT740: the store in its canonical form, picture time within its frame,
and the Schedule within its bounds. -/

namespace Sys2Proof.Machine

/-- The store keeps its canonical form: addresses rise and no listed byte is the one an unlisted address reads as. -/
def State.storeSound (s : State) : Prop := s.store.wf = true

/-- R2, R3, R4, R13: the master rate is one of the eleven, L lies in its range (so does a pending tune's), the correction
is within L's largest value, the tick lies within the frame, and so does the second tick of a deletion. -/
def Clock.sound (c : Clock) : Prop :=
  c.rate ≤ 10 ∧ (1 ≤ c.slew ∧ c.slew ≤ 255) ∧ c.correction.natAbs ≤ 255 ∧ c.tick < rateTicks c.rate ∧
    (c.phase = .early → c.tick + 1 < rateTicks c.rate) ∧
    ∀ t, c.pendingTune = some t → 1 ≤ t.slew ∧ t.slew ≤ 255

/-- Picture time is within its frame. -/
def State.pictureSound (s : State) : Prop := s.clock.sound

/-- R150: at most 32 entries, and no two of one slot. -/
def State.scheduleSound (s : State) : Prop := s.schedule.length ≤ 32 ∧ (s.schedule.map fun e => e.slot).Nodup

/-- R169, R172 steps 1 and 2: the state in which an order filed in slot n and taken from it reaches its judging. -/
def State.orderTaken (n : SlotId) (t : Timing) (o : Order) (u : State) : State :=
  State.beginTake n (State.fileOrder n t o u)

end Sys2Proof.Machine

namespace Sys2Proof

/-- The orders' own rows: how long they wait, their slot, timing words and order. -/
def orderRow : Instr → Option (Nat × SlotId × Timing × Order)
  | .clockStart w n t a => some (w, n, t, .clockStart a)
  | .clockTune w n t a => some (w, n, t, .clockTune a)
  | .clockStop w n t => some (w, n, t, .clockStop)
  | .portSet w n t a => some (w, n, t, .portSet a)
  | .portOff w n t p => some (w, n, t, .portOff p)
  | .tallySetSet w n t l => some (w, n, t, .tallySet { line := l, action := 0, value := 0, invert := 0 })
  | .tallySetClear w n t l => some (w, n, t, .tallySet { line := l, action := 1, value := 0, invert := 0 })
  | .tallySetToggle w n t l => some (w, n, t, .tallySet { line := l, action := 2, value := 0, invert := 0 })
  | .tallySetPulse w n t l k => some (w, n, t, .tallySet { line := l, action := 3, value := k, invert := 0 })
  | .tallySetBind w n t l g v => some (w, n, t, .tallySet { line := l, action := 4, value := g, invert := v })
  | .tallySetUnbind w n t l v => some (w, n, t, .tallySet { line := l, action := 5, value := 0, invert := v })
  | .tallySetPolarity w n t l v => some (w, n, t, .tallySet { line := l, action := 6, value := v, invert := 0 })
  | .outputSet w n t a => some (w, n, t, .outputSet a)
  | .userTable w n t e => some (w, n, t, .userTable e)
  | .inputSet w n t a => some (w, n, t, .inputSet a)
  | .deviceEnrol w n t a => some (w, n, t, .deviceEnrol a)
  | .deviceDrop w n t d => some (w, n, t, .deviceDrop d)
  | .faultAck w n t d => some (w, n, t, .faultAck d)
  | .jam w n t sel k => some (w, n, t, .jam sel k)
  | .markSet w n t a => some (w, n, t, .markSet a)
  | .markInject w n t g k => some (w, n, t, .markInject g k)
  | .groupSet w n t a => some (w, n, t, .groupSet a)
  | .takeOpen w n t a => some (w, n, t, .takeOpen a)
  | .takeClose w n t g => some (w, n, t, .takeClose g)
  | .cancel w n t m => some (w, n, t, .cancel m)
  | .queryClock w n t a c => some (w, n, t, .queryClock a c)
  | .queryDevice w n t a => some (w, n, t, .queryDevice a)
  | .queryTake w n t a => some (w, n, t, .queryTake a)
  | .queryMark w n t a => some (w, n, t, .queryMark a)
  | _ => none

/-- The rows of the events that the part makes of its own accord at an instant: how long they wait, and the event. -/
def eventRow : Instr → Option (Nat × Machine.Due)
  | .initialisationEnd w => some (w, .initialisationEnd)
  | .hrefMissing w => some (w, .hrefMissing)
  | .holdoverExpiry w => some (w, .holdoverExpiry)
  | .portSettingApply w i => some (w, .portApply i)
  | .unitEvent w i => some (w, .unitEvent i)
  | .portPulseEnd w i => some (w, .pulseEnd i)
  | .tallyPulseEnd w i => some (w, .tallyPulseEnd i)
  | .wordBoundary w o => some (w, .wordBoundary o)
  | .cellStart w o => some (w, .cellStart o)
  | .timeWordArrival w i => some (w, .wordArrival i)
  | .lineQuiet w i => some (w, .lineQuiet i)
  | .silence w d => some (w, .silence d)
  | .verifyExpiry w o => some (w, .verifyExpiry o)
  | .latchReArm w i => some (w, .latchReArm i)
  | .idleTimerExpiry w => some (w, .idleTimer)
  | .scheduleFiring w n => some (w, .firing n)
  | _ => none

end Sys2Proof
end

