-- ==== Sys2Proof/Certificates/Slice0/Obligations.lean ====
section
/-! DEFINITION. The statements for the provers. In each, `u` is the state in which the command is taken (its wait has passed,
entry 2) and `v` the state in which a filed order reaches its judging (R172 steps 1 and 2). -/

open Sys2Proof Sys2Proof.Machine

/-! ## The machine -/

/-- The command at the front of the queue is executed on the state with the queue's rest. -/
def Obligations.StepTakesTheFrontCommand : Prop :=
  ∀ (c : Instr) (rest : List Instr) (s : State), s.pending = c :: rest →
    step s = exec c { s with pending := rest }

/-- No command faults, none is refused, and none touches the queue of waiting commands. -/
def Obligations.EveryCommandAnswersNextAndKeepsTheQueue : Prop :=
  ∀ (c : Instr) (s : State), ∃ t, exec c s = .next t ∧ t.pending = s.pending

/-- The store's canonical form (entry 7) is kept by every step. -/
def Obligations.StepKeepsTheStoreCanonical : Prop :=
  ∀ s t : State, s.storeSound → step s = .next t → t.storeSound

/-- R2, R13, R14: a tick always lies within its frame, whatever correction the frame carries. -/
def Obligations.StepKeepsPictureTimeWithinItsFrame : Prop :=
  ∀ s t : State, s.pictureSound → step s = .next t → t.pictureSound

/-- R150: the Schedule never holds more than 32 entries, and no two name one slot. -/
def Obligations.StepKeepsTheScheduleWithinItsBounds : Prop :=
  ∀ s t : State, s.scheduleSound → step s = .next t → t.scheduleSound

/-- The three invariants hold right after a hard reset. -/
def Obligations.ResetIsSound : Prop :=
  State.reset.storeSound ∧ State.reset.pictureSound ∧ State.reset.scheduleSound

/-- What a hard reset leaves, as the spec's tables give it, and how the part looks from outside (R164, R188). The input
pins' levels and the counters of free values are the model's choices (entries 9, 8 and 28) and are not stated. -/
def Obligations.HardResetValues : Prop :=
  let s := State.reset
  (s.clock.state = .stopped ∧ s.clock.frame = 0 ∧ s.clock.tick = 0 ∧ s.clock.rate = 0 ∧ s.clock.startCount = 0 ∧
    s.clock.slew = 64 ∧ s.clock.window = 16 ∧ s.clock.holdoverLimit = 1500 ∧ s.clock.crashPermit = false ∧
    s.clock.refUse = false ∧ s.clock.pendingTune = none ∧ s.clock.ordered = none ∧ s.clock.lockRun = 0 ∧
    s.clock.missingRun = 0 ∧ s.clock.crashEligible = false ∧ s.clock.history = [] ∧ s.clock.holdoverValue = none ∧
    s.clock.holdoverCount = 0) ∧
  (∀ i : PortId, s.ports[i].active = none ∧ s.ports[i].pending = none ∧ s.ports[i].applyFrame = none ∧
    s.ports[i].anchor = 0 ∧ s.ports[i].cadenceFrame = 0 ∧ s.ports[i].level = false ∧ s.ports[i].pulse = none) ∧
  (∀ i : LineId, s.lines[i].group = none ∧ s.lines[i].invert = false ∧ s.lines[i].level = false ∧
    s.lines[i].pulse = none ∧ s.lines[i].pending = none) ∧
  (∀ o : OutputId, s.outputs[o].settings =
      { mode := .off, burst := 4, wake := 2, grace := 8, attempts := 3, verify := 16, group := none, idleIndex := 0,
        openIndex := 0 } ∧
    s.outputs[o].state = .off ∧ s.outputs[o].anchor = 0 ∧ s.outputs[o].wordFrame = 0 ∧
    s.outputs[o].wordsLeft = none ∧ s.outputs[o].cut = false ∧ s.outputs[o].word = none ∧
    s.outputs[o].level = false ∧ s.outputs[o].request = none ∧ s.outputs[o].pending = none) ∧
  (∀ k : Fin 16, s.userBits[k] = 0) ∧
  (∀ i : InputId, s.inputs[i].enable = false ∧ s.inputs[i].delay = 0 ∧ s.inputs[i].badWords = 0 ∧
    s.inputs[i].bound = none ∧ s.inputs[i].receiver = .idle ∧ s.inputs[i].aligned = false ∧
    s.inputs[i].half = none ∧ s.inputs[i].hunt = [] ∧ s.inputs[i].bits = [] ∧ s.inputs[i].lastLength = 0) ∧
  (∀ d : DeviceId, s.devices[d] = none) ∧ (∀ o : OutputId, s.runs[o] = none) ∧
  (∀ i : MarkId, s.marks[i].role = .disabled ∧ s.marks[i].edge = .rise ∧ s.marks[i].windowBase = 1 ∧
    s.marks[i].windowLimit = 0 ∧ s.marks[i].holdoff = 0 ∧ s.marks[i].quiet = 0 ∧ s.marks[i].reArm = none ∧
    s.marks[i].remaining = 0 ∧ s.marks[i].silent = 0 ∧ s.marks[i].ignored = 0) ∧
  (∀ g : GroupId, s.groups[g].counter = 0 ∧ s.groups[g].nextTag = 0 ∧ s.groups[g].take = none) ∧
  s.schedule = [] ∧ s.scanner.point = none ∧ s.scanner.requested = false ∧ s.scanner.idle = 0 ∧
  (s.writer.accepted = 0 ∧ s.writer.sequence = 0 ∧ s.writer.written = 0 ∧ s.writer.dropped = 0 ∧
    s.writer.gap = 0 ∧ s.writer.queue = [] ∧ s.writer.urgent = false ∧ s.writer.clock = false) ∧
  (s.bus.ready = false ∧ s.bus.initLeft = 32768 ∧ s.intAsserted = false ∧ (∀ a : Word, s.hostRead a = 0) ∧
    (∀ i : PortId, s.portPin i = false) ∧ (∀ i : LineId, s.tallyPin i = false) ∧
    (∀ o : OutputId, s.outputPin o = false))

/-! ## Resets and the store initialisation -/

/-- R188, R164, R166: RESET# low for 16 reference ticks brings a hard reset: every block stands at its hard-reset values, with
the output pins as R188 gives them, until RESET# goes high; then the initialisation begins. At power-on the hard reset holds
until the supply is within its limits and 1,024 reference ticks have passed from then on (that they count from then is log
entry 8, the model's reading). Whether and when a pulse of fewer than 16 ticks resets the part is the free value of log entry
8, whatever that value is. `settled` is the state after the row's ticks with the hard reset begun or ended by its rule. -/
def Obligations.HardResetByItsLength : Prop :=
  let reset := fun (u : State) => { State.reset with
    pins := u.pins, hold := { u.hold with held := true }, uses := u.uses, pending := u.pending }
  let long := fun (u : State) => u.hold.low = true ∧ u.hold.held = false ∧
    (16 ≤ u.hold.lowFor ∨ Config.resetTicks u.uses.resets ≤ u.hold.lowFor)
  let finished := fun (u : State) => u.hold.held = true ∧ u.hold.low = false ∧ u.hold.supply = true ∧ u.hold.powerLeft = 0
  let settled := fun (u : State) =>
    if long u then reset u else if finished u then { u with hold := { u.hold with held := false } } else u
  (∀ (w : Nat) (s : State),
    exec (.hardReset w .assert) s = .next (settled (State.upTo w
      (if s.hold.low = true then s else { s with hold := { s.hold with low := true, lowFor := 0 } })))) ∧
  (∀ (w : Nat) (s : State),
    let z := if long s then reset s else s
    exec (.hardReset w .release) s = .next (settled (State.upTo w (if s.hold.low = true then
      { z with hold := { z.hold with low := false, lowFor := 0 }, uses := { z.uses with resets := z.uses.resets + 1 } }
      else s)))) ∧
  (∀ (w : Nat) (s : State),
    exec (.hardReset w .powerOn) s = .next (settled (State.upTo w
      { reset s with hold := { s.hold with held := true, supply := false, powerLeft := 1024 } })) ∧
    exec (.hardReset w .powerGood) s = .next (settled (State.upTo w
      { s with hold := { s.hold with supply := true } }))) ∧
  (∀ s : State,
    s.beginTick.hold = { s.hold with
      lowFor := if s.hold.low then min 16 (s.hold.lowFor + 1) else s.hold.lowFor
      powerLeft := if s.hold.supply then s.hold.powerLeft - 1 else s.hold.powerLeft } ∧
    (s.hold.held = true → s.beginTick.bus = s.bus) ∧
    (s.isDue .resetBegins = true ↔ long s) ∧ (s.isDue .resetEnds = true ↔ finished s)) ∧
  (∀ (s : State) (a : Word) (read : Option Word),
    let q := reset s
    q.bus.ready = false ∧ q.bus.initLeft = 32768 ∧ q.hostRead a = 0 ∧ q.dataBus read = none ∧ q.intAsserted = false ∧
      (∀ i : PortId, q.portPin i = false) ∧ (∀ i : LineId, q.tallyPin i = false) ∧
      (∀ o : OutputId, q.outputPin o = false))

/-- R166 with R4, R25, R37, R67, R73, R74, R100, R115, R118, R145 and R150: what a soft reset does to each block. -/
def Obligations.SoftResetInEveryBlock : Prop :=
  ∀ (w : Nat) (s : State),
    let u := s.upTo w
    (u.bus.ready = false → exec (.softReset w) s = .next u) ∧
    (u.bus.ready = true → ∃ t, exec (.softReset w) s = .next t ∧
      t.bus = { ready := false, initLeft := 320, hard := false } ∧ t.clock = u.clock ∧ t.store = u.store ∧
      t.inputs = u.inputs ∧ t.userBits = u.userBits ∧ t.pins = u.pins ∧ t.hold = u.hold ∧ t.owed = u.owed ∧
      t.uses = u.uses ∧ t.schedule = [] ∧
      t.scanner = { point := none, requested := false, idle := 0 } ∧ (∀ o : OutputId, t.runs[o] = none) ∧
      t.writer = { accepted := 0, sequence := 0, written := 0, dropped := 0, gap := 0, queue := [], kept := [],
                   own := u.resetReports, urgent := false, clock := false } ∧
      (∀ i : PortId, t.ports[i] = { u.ports[i] with pending := none, applyFrame := none }) ∧
      (∀ i : LineId, t.lines[i] = { u.lines[i] with
        level := u.lines[i].group.isSome && u.lines[i].level, pulse := none, pending := none }) ∧
      (∀ o : OutputId,
        let x := u.outputs[o]
        let y := t.outputs[o]
        y.settings = x.settings ∧ y.state = x.state ∧ y.anchor = x.anchor ∧ y.wordFrame = x.wordFrame ∧
          y.word = x.word ∧ y.level = x.level ∧ y.request = none ∧ y.pending = none ∧
          y.wordsLeft = (if x.state = .waking ∨ x.state = .bursting then some 1 else x.wordsLeft) ∧
          (x.state = .waking → y.cut = true) ∧ (x.state = .bursting → x.settings.mode = .burst → y.cut = true)) ∧
      (∀ d : DeviceId, t.devices[d] = u.devices[d].map fun x =>
        if x.state = .jamming then
          { x with state := .acquiring, validRun := 0, lastOffset := none, sinceWord := 0, jamWanted := false }
        else { x with jamWanted := false }) ∧
      (∀ i : MarkId, t.marks[i] = { u.marks[i] with reArm := none, remaining := u.marks[i].quiet, silent := 0 }) ∧
      (∀ g : GroupId, t.groups[g].isOpen = false ∧ t.groups[g].counter = u.groups[g].counter ∧
        t.groups[g].nextTag = u.groups[g].nextTag ∧
        (∀ k, u.groups[g].current = some k → t.groups[g].take = some { k with closed := some (u.here, .reset) }) ∧
        (u.groups[g].current = none → t.groups[g] = u.groups[g])))

/-- R164, R162, R166: the end of the initialisation opens the store, with the header words of R162 and every slot FREE;
a hard one leaves every other word 0 and a soft one as it stood; a scan requested meanwhile begins. -/
def Obligations.InitialisationEndOpensTheStore : Prop :=
  ∀ (w : Nat) (s : State),
    let u := s.upTo w
    u.storeSound → u.bus.ready = false → u.bus.initLeft = 0 → ∃ t, exec (.initialisationEnd w) s = .next t ∧
      t.bus.ready = true ∧ t.clock = u.clock ∧ t.ports = u.ports ∧ t.lines = u.lines ∧ t.outputs = u.outputs ∧
      t.inputs = u.inputs ∧ t.devices = u.devices ∧ t.runs = u.runs ∧ t.marks = u.marks ∧ t.groups = u.groups ∧
      t.schedule = u.schedule ∧ t.userBits = u.userBits ∧ t.pins = u.pins ∧ t.hold = u.hold ∧ t.owed = u.owed ∧
      t.uses = u.uses ∧ t.word 0x0000 = 0x5043 ∧ t.word 0x0001 = 1 ∧ t.word 0x0002 = (if u.bus.hard then 1 else 2) ∧
      t.word 0x0003 = u.writer.written ∧ t.word 0x0005 = lo16 u.clock.frame ∧
      t.word 0x0006 = hi16 u.clock.frame ∧ t.word 0x0007 = u.clock.state.code ∧
      t.word 0x0010 = 0 ∧ t.word 0x0011 = 1 ∧ t.word 0x0012 = 0 ∧ t.word 0x0013 = 0 ∧
      (∀ a, 0x0008 ≤ a → a ≤ 0x000F → t.word a = 0) ∧ (∀ a, 0x0014 ≤ a → a ≤ 0x00FF → t.word a = 0) ∧
      (∀ n : SlotId, t.slotWord n 0 = 0) ∧
      (u.bus.hard = true → ∀ a, 0x0100 ≤ a → t.word a = 0) ∧
      (u.bus.hard = false → ∀ a, 0x0100 ≤ a → (∀ n : SlotId, a ≠ 0x0100 + 32 * n.val) → t.word a = u.word a) ∧
      t.scanner.idle = 0 ∧ (u.scanner.requested = true → t.scanner.point = some 0 ∧ t.scanner.requested = false) ∧
      (u.scanner.requested = false → t.scanner.point = u.scanner.point) ∧
      (u.writer.queue = [] → u.writer.own.length + reportsWaiting u.writer.kept ≤ 64 →
        ∃ rest, t.writer.queue = u.writer.own.map .report ++ rest ∧ rest.length = u.writer.kept.length)

/-! ## The host bus -/

/-- R170: what makes a scan request, and what a request does. A write to NUDGE while READY is 0 is ignored (R164). -/
def Obligations.ScanRequests : Prop :=
  ∀ (w : Nat) (x : Word) (s : State),
    let u := s.upTo w
    (u.bus.ready = false → exec (.nudge w x) s = .next u) ∧
    (u.bus.ready = true → u.scanner.point = none →
      exec (.nudge w x) s = .next { u with scanner := { u.scanner with point := some 0 } }) ∧
    (u.bus.ready = true → u.scanner.point ≠ none →
      exec (.nudge w x) s = .next { u with scanner := { u.scanner with requested := true } }) ∧
    (u.bus.ready = true → u.clock.state = .stopped → 2 ^ 20 ≤ u.scanner.idle → u.scanner.point = none →
      exec (.idleTimerExpiry w) s = .next { u with scanner := { u.scanner with idle := 0, point := some 0 } }) ∧
    (u.bus.ready = true → u.clock.state = .stopped → 2 ^ 20 ≤ u.scanner.idle → u.scanner.point ≠ none →
      exec (.idleTimerExpiry w) s = .next { u with scanner := { u.scanner with idle := 0, requested := true } }) ∧
    (u.clock.state ≠ .stopped ∨ u.scanner.idle < 2 ^ 20 → exec (.idleTimerExpiry w) s = .next u)

/-- R161, R164, R165, R167: what a host write to each address does; the writes that clear a latched reason clear that one
and nothing else. -/
def Obligations.HostWritesByAddress : Prop :=
  ∀ (w : Nat) (a x : Word) (s : State),
    let u := s.upTo w
    (u.bus.ready = false → exec (.registerWrite w a x) s = .next u ∧ exec (.attnClearUrgent w) s = .next u ∧
      exec (.attnClearClock w) s = .next u) ∧
    (u.bus.ready = true →
      (a.toNat < 0x8000 → a ≠ 0x0010 → exec (.registerWrite w a x) s = .next (u.putWord a.toNat x)) ∧
      (a = 0x0010 → exec (.registerWrite w a x) s = exec (.readCountWrite w x) s) ∧
      (a = 0x8000 → exec (.registerWrite w a x) s = .next u) ∧
      (a = 0x8001 → exec (.registerWrite w a x) s = .next { u with writer := { u.writer with
        urgent := u.writer.urgent && !x.getLsbD 1, clock := u.writer.clock && !x.getLsbD 3 } }) ∧
      (a = 0x8002 → exec (.registerWrite w a x) s = exec (.nudge w x) s) ∧
      (a = 0x8003 → x = 1 → exec (.registerWrite w a x) s = exec (.softReset w) s) ∧
      (a = 0x8003 → x ≠ 1 → exec (.registerWrite w a x) s = .next u) ∧
      (0x8003 < a.toNat → exec (.registerWrite w a x) s = .next u) ∧
      exec (.attnClearUrgent w) s = .next { u with writer := { u.writer with urgent := false } } ∧
      exec (.attnClearClock w) s = .next { u with writer := { u.writer with clock := false } })

/-- R163, R176, R178: writes to the host-owned header words. A read count that makes room in a full log after drops brings
the LOG_GAP record at once, which carries the gap count and the dropped total; any other read count is only laid down. -/
def Obligations.HeaderWrites : Prop :=
  ∀ (w : Nat) (x : Word) (s : State),
    let u := s.upTo w
    let before := (u.writer.written - u.word 0x0010).toNat
    let after := (u.writer.written - x).toNat
    u.bus.ready = true →
      exec (.noticeLevelWrite w x) s = .next (u.putWord 0x0011 x) ∧
      exec (.attentionMaskWrite w x) s = .next (u.putWord 0x0012 x) ∧
      (u.storeSound →
        (u.writer.gap = 0 ∨ before < 1024 ∨ 1024 ≤ after →
          exec (.readCountWrite w x) s = .next (u.putWord 0x0010 x)) ∧
        (0 < u.writer.gap → 1024 ≤ before → after < 1024 →
          exec (.readCountWrite w x) s = .next
            { u with
              store := ((u.store.putWord 0x0010 x).putWords (0x0900 + 16 * (u.writer.written.toNat % 1024))
                (reportWords u.writer.sequence
                  { position := u.here, urgent := true, body := .logGap u.writer.gap u.writer.dropped })).putWord
                0x0003 (u.writer.written + 1),
              writer := { u.writer with sequence := u.writer.sequence + 1, written := u.writer.written + 1,
                                        urgent := true, gap := 0 } }))

/-- R167, R168, R178: the reasons of ATTN and when INT# is asserted. -/
def Obligations.AttnAndInt : Prop :=
  ∀ s : State, s.bus.ready = true →
    let unread := (s.writer.written - s.word 0x0010).toNat
    let level := if (s.word 0x0011).toNat = 0 then 1 else min (s.word 0x0011).toNat 1024
    (s.attn.getLsbD 0 = decide (level ≤ unread)) ∧ (s.attn.getLsbD 1 = s.writer.urgent) ∧
      (s.attn.getLsbD 2 = decide (1024 < unread)) ∧ (s.attn.getLsbD 3 = s.writer.clock) ∧
      (s.intAsserted = true ↔ ∃ i, i < 4 ∧ s.attn.getLsbD i = true ∧ (s.word 0x0012).getLsbD i = true) ∧
      (1024 < unread → s.attn.getLsbD 0 = true) ∧
      s.hostRead 0x8000 = 0x0740 ∧ s.hostRead 0x8001 = s.attn.setWidth 16

/-! ## Orders in slots, and their timing -/

/-- Entry 6: an order's own row files the order in its slot and has it taken from there; while READY is 0 it does
nothing. Entries 2 and 4: the row of an event the part makes of its own accord is that event when it is due, and nothing
otherwise; every other row finds the tally pulses of a frame boundary ended. -/
def Obligations.RowsRunTheirOrderOrEvent : Prop :=
  (∀ (c : Instr) (w : Nat) (n : SlotId) (t : Timing) (o : Order) (s : State), orderRow c = some (w, n, t, o) →
    ((s.upTo w).bus.ready = true → exec c s = .next (State.judgeOrder n t o (State.orderTaken n t o (s.upTo w)))) ∧
    ((s.upTo w).bus.ready = false → exec c s = .next (s.upTo w))) ∧
  (∀ (c : Instr) (w : Nat) (e : Due) (s : State), eventRow c = some (w, e) →
    let u := if e ∈ State.boundaryEvents then s.after w else s.upTo w
    (u.isDue e = true → exec c s = .next (State.takeEvent e u)) ∧ (u.isDue e = false → exec c s = .next u))

/-- R182, 10.3, 10.6: every order reads back from the words that hold it, with every argument at every value. -/
def Obligations.OrdersReadBackFromTheirWords : Prop :=
  ∀ (o : Order) (t : Timing),
    let words := orderWords t o
    words.length = 23 ∧ words[0]! = orderKind o ∧ words[1]! = ~~~ orderKind o ∧ words[2]! = t.timing ∧
      wide words[3]! words[4]! = t.due ∧ words[5]! = t.interval ∧ words[6]! = t.count ∧
      readOrder words[0]! (fun k => words[k - 1]!) = some o

/-- R169, R172 steps 1 to 3: a slot filed and taken reads TAKEN and holds its order, and where the slot held no entry the
rest of the part is as it was, but for a completion owed to that slot. R152: a held slot filed afresh loses its entry with an
urgent SLOT_LOST report, cause RETAKEN, which carries what the slot then holds. -/
def Obligations.TakenSlotHoldsItsOrder : Prop :=
  ∀ (n : SlotId) (t : Timing) (o : Order) (u : State), u.storeSound →
    let v := State.orderTaken n t o u
    v.slotWord n 0 = 2 ∧ v.slotWord n 1 = orderKind o ∧ v.slotWord n 2 = ~~~ orderKind o ∧ v.slotTiming n = t ∧
      readOrder (v.slotWord n 1) (v.slotWord n) = some o ∧
      (u.entryOf n = none →
        v = { u with
              store := v.store
              writer := { u.writer with queue := u.writer.queue.filter fun i => !State.QueueItem.completes n i }
              runs := u.runs.map fun r => r.map (State.Run.disown n) } ∧
        ∀ a, a < 0x0100 + 32 * n.val ∨ 0x0100 + 32 * n.val + 24 ≤ a → v.word a = u.word a) ∧
      (∀ e, u.entryOf n = some e → v = State.putSlotState (State.discardOwed n
        ((State.removeEntry n (State.fileOrder n t o u)).handReport
          { position := u.here, urgent := true,
            body := .slotLost n .retaken e.kind 1 (orderKind o) (~~~ orderKind o) e.due
              ((e.again.map fun r => r.fired).getD 0) ((e.again.map fun r => r.missed).getD 0) })) n 2)

/-- R147, R148, R151: which timings an order may carry, and how a taken order is judged by its timing: refused for it,
carried out at once, refused NO_CLOCK while STOPPED, held when its due frame is ahead, refused SCHEDULE_FULL or TOO_LATE, or
carried out late within grace. `v` is the state right after the slot is taken, and `late` the lateness. -/
def Obligations.OrdersAreJudgedByTheirTiming : Prop :=
  (∀ (t : Timing) (o : Order),
    (State.readWhen t o = none ↔
      (2 < t.timing.toNat ∨
        (t.timing = 1 ∧ ((∃ a, o = .clockStart a) ∨ (∃ m, o = .cancel m) ∨ (∃ a c, o = .queryClock a c) ∨
          (∃ a, o = .queryDevice a) ∨ (∃ a, o = .queryTake a) ∨ (∃ a, o = .queryMark a))) ∨
        (t.timing = 2 ∧ (t.interval = 0 ∨
          ¬ ((∃ a, o = .tallySet a) ∨ (∃ a b, o = .jam a b) ∨ (∃ a b, o = .markInject a b)))))) ∧
    (t.timing = 0 → State.readWhen t o = some .atOnce) ∧
    (State.readWhen t o ≠ none → t.timing = 1 → State.readWhen t o = some .atFrame) ∧
    (State.readWhen t o ≠ none → t.timing = 2 → State.readWhen t o = some .again)) ∧
  (∀ (n : SlotId) (t : Timing) (o : Order) (v : State),
    let late := (v.clock.frame - t.due).toInt
    let grace := min (v.word 0x0013).toNat 15
    (State.readWhen t o = none →
      State.judgeOrder n t o v = State.completeSlot n .badArg Reply.zero none v) ∧
    (t.timing = 0 →
      State.judgeOrder n t o v = State.carryOut { slot := n, fired := false, again := false, late := false } o v) ∧
    (State.readWhen t o ≠ none → t.timing ≠ 0 → v.clock.state = .stopped →
      State.judgeOrder n t o v = State.completeSlot n .noClock Reply.zero none v) ∧
    (State.readWhen t o ≠ none → t.timing ≠ 0 → v.clock.state ≠ .stopped →
      (late < 0 → 32 ≤ v.schedule.length →
        State.judgeOrder n t o v = State.completeSlot n .scheduleFull Reply.zero none v) ∧
      (late < 0 → v.schedule.length < 32 →
        ∃ e : Entry, State.judgeOrder n t o v =
            { v with
              store := v.store.putWord (0x0100 + 32 * n.val) 3,
              schedule := State.insertEntry v.clock.frame e v.schedule } ∧
          e.slot = n ∧ e.kind = orderKind o ∧ e.due = t.due ∧ (t.timing = 1 → e.again = none) ∧
          (t.timing = 2 → e.again = some
            { interval := t.interval.toNat, left := if t.count = 0 then none else some t.count.toNat, fired := 0,
              missed := 0, firstFiring := none, lastResult := none, late := false })) ∧
      ((grace : Int) < late →
        State.judgeOrder n t o v = State.completeSlot n .tooLate Reply.zero none v) ∧
      (t.timing = 1 → 0 ≤ late → late ≤ grace →
        State.judgeOrder n t o v =
          State.carryOut { slot := n, fired := false, again := false, late := decide (0 < late) } o v)))

/-- R149: a REPEAT taken within grace passes over its earlier occurrences, carries out the last, and is held with the
firings left. Here count 0, or more firings than occurrences, and room in the Schedule; `r` is the owner's result. -/
def Obligations.LateRepeatsAreCarriedOutOnce : Prop :=
  ∀ (n : SlotId) (t : Timing) (o : Order) (v : State),
    let late := (v.clock.frame - t.due).toInt
    let passed := late.toNat / t.interval.toNat
    State.readWhen t o = some .again → v.clock.state ≠ .stopped → 0 ≤ late → late ≤ min (v.word 0x0013).toNat 15 →
    (t.count = 0 ∨ passed + 1 < t.count.toNat) → v.schedule.length < 32 →
      ∃ (v' : State) (res : Result) (e : Entry) (r : Repeating),
        v.dispatch { slot := n, fired := false, again := true, late := decide (0 < late) } o = (v', res) ∧
        State.judgeOrder n t o v = State.addEntry e (v'.putWord (0x0100 + 32 * n.val) 3) ∧
        e.slot = n ∧ e.kind = orderKind o ∧ e.due = t.due + BitVec.ofNat 32 ((passed + 1) * t.interval.toNat) ∧
        e.again = some r ∧ r.interval = t.interval.toNat ∧ r.late = decide (0 < late) ∧
        r.left = (if t.count = 0 then none else some (t.count.toNat - (passed + 1))) ∧
        r.firstFiring = some t.due ∧
        (State.Result.code res = .done → r.fired = 1 ∧ r.missed = passed ∧ r.lastResult = some .done) ∧
        (State.Result.code res ≠ .done → r.fired = 0 ∧ r.missed = min 65535 (passed + 1) ∧
          r.lastResult = some (State.Result.code res))

/-- R174, R176, R177: how a report and a completion are handed to the Report Writer. -/
def Obligations.HandingToTheReportWriter : Prop :=
  ∀ (s : State) (r : Report) (c : Completion),
    (s.bus.ready = true → reportsWaiting s.writer.queue < 64 →
      s.handReport r = { s with writer := { s.writer with
        accepted := s.writer.accepted + 1, queue := s.writer.queue ++ [.report r] } }) ∧
    (s.bus.ready = true → 64 ≤ reportsWaiting s.writer.queue →
      s.handReport r = { s with
        writer := { s.writer with accepted := s.writer.accepted + 1, dropped := min 65535 (s.writer.dropped + 1)
                                  gap := min 65535 (s.writer.gap + 1) }
        store := s.store.putWord 0x0004 (num (min 65535 (s.writer.dropped + 1))) }) ∧
    (s.bus.ready = false → reportsWaiting s.writer.kept < 64 →
      s.handReport r = { s with writer := { s.writer with kept := s.writer.kept ++ [.report r] } }) ∧
    (s.bus.ready = false → 64 ≤ reportsWaiting s.writer.kept →
      s.handReport r = { s with writer := { s.writer with
        dropped := min 65535 (s.writer.dropped + 1), gap := min 65535 (s.writer.gap + 1) } }) ∧
    (s.bus.ready = true → s.handCompletion c = { s with writer := { s.writer with
      queue := s.writer.queue ++ [.completion { c with fence := s.writer.accepted }] } }) ∧
    (s.bus.ready = false → s.handCompletion c = { s with writer := { s.writer with
      kept := s.writer.kept ++ [.completion c] } })

/-! ## The Picture Clock -/

/-- R5: which CLOCK_START arguments are refused BAD_ARG and what the others mean (that a crash permit above 1 is refused with
the parameter flag clear is log entry 20, the model's reading); R5, R6, R34, R42, R70, R97, R117, R121, R170: CLOCK_START on a
stopped clock starts picture time in every block, makes a scan request, and hands the Report Writer the CLOCK_STATE,
PORT_APPLIED and DEVICE_STATE reports and the order's completion. The silence counts at boundary 0 are log entry 12, the order
of the reports and the waiting word boundary log entry 5, and the level and pulse of a dropped port setting log entry 14, all
the model's choices. The automatic check of boundary 0 is owed (log entry 4). A frame boundary at whose instant the clock stopped
and starts again first has its silence step. -/
def Obligations.ClockStartBeginsPictureTime : Prop :=
  (∀ a : ClockStartArgs,
    let label : Label := { hh := a.hh.toNat, mm := a.mm.toNat, ss := a.ss.toNat, ff := a.ff.toNat }
    (readStart a = none ↔
      (10 < a.rate.toNat ∨ labelValid a.rate.toNat label = false ∨ 1 < a.refUse.toNat ∨ 1 < a.paramFlag.toNat ∨
        1 < a.crash.toNat ∨
        (a.paramFlag = 1 ∧ (a.slew = 0 ∨ 255 < a.slew.toNat ∨ 255 < a.window.toNat ∨ a.holdover = 0)))) ∧
    (∀ x, readStart a = some x → x.rate = a.rate.toNat ∧ x.label = label ∧ x.refUse = decide (a.refUse = 1) ∧
      x.tune = if a.paramFlag = 1 then
        some { slew := a.slew.toNat, window := a.window.toNat, holdover := a.holdover.toNat,
               crash := decide (a.crash = 1), refUse := decide (a.refUse = 1) } else none)) ∧
  (∀ (w : Nat) (n : SlotId) (t : Timing) (a : ClockStartArgs) (s : State),
    let v := State.orderTaken n t (.clockStart a) (s.upTo w)
    (s.upTo w).bus.ready = true → t.timing = 0 →
    (v.clock.state ≠ .stopped →
      exec (.clockStart w n t a) s = .next (State.completeSlot n .busy Reply.zero none v)) ∧
    (v.clock.state = .stopped → readStart a = none →
      exec (.clockStart w n t a) s = .next (State.completeSlot n .badArg Reply.zero none v)) ∧
    (∀ x, v.clock.state = .stopped → readStart a = some x →
      let v := State.closeSilences v.counted
      ∃ q, exec (.clockStart w n t a) s = .next q ∧
      q.clock = { v.clock with
        state := if x.refUse then .locking else .freeRun,
        frame := 0, tick := 0, phase := .single, correction := 0, rate := x.rate,
        startCount := labelCount x.rate x.label,
        slew := (x.tune.map (·.slew)).getD v.clock.slew, window := (x.tune.map (·.window)).getD v.clock.window,
        holdoverLimit := (x.tune.map (·.holdover)).getD v.clock.holdoverLimit,
        crashPermit := (x.tune.map (·.crash)).getD v.clock.crashPermit, refUse := x.refUse, pendingTune := none,
        ordered := none, lockRun := 0, missingRun := 0, crashEligible := x.refUse, history := [],
        holdoverValue := none, holdoverCount := 0, arrived := false, settleOwed := false } ∧
      q.writer.clock = true ∧ q.scanner.idle = 0 ∧
      (v.scanner.point = none → q.scanner.point = some 0 ∧ q.scanner.requested = v.scanner.requested) ∧
      (v.scanner.point ≠ none → q.scanner.point = v.scanner.point ∧ q.scanner.requested = true) ∧
      (let report := fun (body : ReportBody) =>
        QueueItem.report { position := { frame := 0, tick := 0 }, urgent := false, body := body }
       let portReports := (List.finRange 12).filterMap fun i => v.ports[i].active.map fun p =>
         report (if p.valid (rateTicks x.rate) then .portApplied i .active .start 0 (p.width (rateTicks x.rate))
           else .portApplied i .dropped .start 0 0)
       let deviceReports := (List.finRange 16).filterMap fun d =>
         (v.devices[d].filter fun y => y.state != .absent).map fun y =>
           report (.deviceState d (some y.state) (some .absent) .start 0 none 0)
       let reports := report (.clockState .stopped (if x.refUse then .locking else .freeRun) .start none) ::
         portReports ++ deviceReports
       reportsWaiting v.writer.queue + reports.length ≤ 64 →
         q.writer.queue = v.writer.queue ++ reports ++ [.completion
           { slot := n, code := .done, frame := 0, fired := 0, missed := 0, reply := Reply.zero, record := none,
             fence := v.writer.accepted + BitVec.ofNat 32 reports.length }]) ∧
      (∀ (i : LineId), (∀ g, v.lines[i].group = some g →
          q.lines[i] = { v.lines[i] with level := v.groups[g].isOpen }) ∧
        (v.lines[i].group = none → q.lines[i] = v.lines[i])) ∧
      (∀ i : PortId, (∀ p, v.ports[i].active = some p → q.ports[i] =
          if p.valid (rateTicks x.rate) then
            { v.ports[i] with anchor := 0, cadenceFrame := 0, level := false, pulse := none, nextEvent := 0 }
          else { v.ports[i] with active := none, level := false, pulse := none }) ∧
        (v.ports[i].active = none → q.ports[i] = v.ports[i])) ∧
      (∀ o : OutputId, q.outputs[o] = { v.outputs[o] with
        anchor := 0, wordFrame := 0, boundaryOwed := true,
        state := if v.outputs[o].settings.mode = .continuous then .continuous else v.outputs[o].state }) ∧
      (∀ d : DeviceId, q.devices[d] = v.devices[d].map fun x =>
        { x with state := .absent, lastOffset := none, validRun := 0, strikes := 0, windowCount := 0, sinceWord := 0,
                 windowOffset := 0, windowFrame := 0 }) ∧
      (∀ i : MarkId, q.marks[i] = { v.marks[i] with reArm := none }) ∧
      q.groups = v.groups ∧ q.runs = v.runs ∧ q.schedule = v.schedule ∧ q.inputs = v.inputs ∧ q.userBits = v.userBits ∧
      q.bus = v.bus ∧ q.pins = v.pins ∧ q.hold = v.hold ∧ q.owed = { v.owed with check := true } ∧ (v.storeSound → ∀ a, a < 4 ∨ 7 < a → q.word a = v.word a)))

/-- R7: CLOCK_TUNE stores a pending tune and nothing else of the clock changes. -/
def Obligations.ClockTuneWaitsForTheBoundary : Prop :=
  ∀ (w : Nat) (n : SlotId) (t : Timing) (a : ClockTuneArgs) (s : State),
    let v := State.orderTaken n t (.clockTune a) (s.upTo w)
    let good := 1 ≤ a.slew.toNat ∧ a.slew.toNat ≤ 255 ∧ a.window.toNat ≤ 255 ∧ 1 ≤ a.holdover.toNat ∧
      a.crash.toNat ≤ 1 ∧ a.refUse.toNat ≤ 1
    (s.upTo w).bus.ready = true → t.timing = 0 →
    (v.clock.state = .stopped →
      exec (.clockTune w n t a) s = .next (State.completeSlot n .noClock Reply.zero none v)) ∧
    (v.clock.state ≠ .stopped → ¬ good →
      exec (.clockTune w n t a) s = .next (State.completeSlot n .badArg Reply.zero none v)) ∧
    (v.clock.state ≠ .stopped → good →
      exec (.clockTune w n t a) s = .next (State.completeSlot n .done Reply.zero none
        (v.setClock { v.clock with
          pendingTune := some { slew := a.slew.toNat, window := a.window.toNat, holdover := a.holdover.toNat,
                                crash := decide (a.crash = 1), refUse := decide (a.refUse = 1) } })))

/-- R9, R10, R36, R42, R72, R114, R143, R159: CLOCK_STOP freezes picture time and stops every block that runs on it. Every
open take closes there with closer CLOCK_STOP; with no run active it closes as it stands, but for CLOCK_UNLOCKED. That flag it
may gain only when the clock was LOCKED, or when the notice of a leaving of LOCKED at this instant's boundary is still owed.
Whether that notice, and a failed listener's entry into ADRIFT, come before or after a take closes are the free values of log
entry 28, whatever those are. A transition of R18 or R19 due at this instant's boundary is made first (R12). -/
def Obligations.ClockStopStopsEveryBlock : Prop :=
  ∀ (w : Nat) (n : SlotId) (t : Timing) (s : State),
    let v := State.orderTaken n t .clockStop (s.upTo w)
    (s.upTo w).bus.ready = true → t.timing = 0 →
    (v.clock.state = .stopped →
      exec (.clockStop w n t) s = .next (State.completeSlot n .noClock Reply.zero none v)) ∧
    (v.clock.state ≠ .stopped →
      let v := v.closeClock
      let left := v.clock.state = .locked ∨ v.owed.unlocked = true
      ∃ q, exec (.clockStop w n t) s = .next q ∧
      q.clock.state = .stopped ∧ q.clock.frame = v.clock.frame ∧ q.clock.tick = v.here.tick ∧
      q.clock.pendingTune = none ∧ q.clock.ordered = none ∧ q.clock.holdoverValue = none ∧ q.clock.lockRun = 0 ∧
      q.clock.missingRun = 0 ∧ q.clock.holdoverCount = 0 ∧ q.clock.crashEligible = false ∧
      q.clock.rate = v.clock.rate ∧ q.clock.startCount = v.clock.startCount ∧ q.clock.slew = v.clock.slew ∧
      q.clock.window = v.clock.window ∧ q.clock.holdoverLimit = v.clock.holdoverLimit ∧
      q.clock.crashPermit = v.clock.crashPermit ∧ q.clock.refUse = v.clock.refUse ∧
      q.clock.history = v.clock.history ∧ q.writer.clock = true ∧ q.scanner.idle = 0 ∧
      (∀ i : PortId, q.portPin i = false ∧ q.ports[i].active = v.ports[i].active ∧ q.ports[i].pending = none ∧
        q.ports[i].cadenceFrame = 0 ∧ q.ports[i].level = false ∧ q.ports[i].pulse = none) ∧
      (∀ i : LineId, q.tallyPin i = false ∧
        q.lines[i] = { v.lines[i] with level := false, pulse := none, pending := none }) ∧
      (∀ o : OutputId, q.outputPin o = false ∧ q.outputs[o].word = none ∧ q.outputs[o].request = none ∧
        q.outputs[o].pending = none ∧ q.outputs[o].wordsLeft = none ∧
        (q.outputs[o].state = if q.outputs[o].settings.mode = .off then .off else .silent)) ∧
      (∀ g : GroupId, q.groups[g].isOpen = false ∧ q.groups[g].counter = v.groups[g].counter ∧
        q.groups[g].nextTag = v.groups[g].nextTag ∧
        (∀ k, v.groups[g].current = some k →
          ∃ (unlocked suspect : Bool) (devices : DeviceSet), q.groups[g].take = some
              { k with flags := { k.flags with clockUnlocked := unlocked, suspect := suspect }, suspects := devices
                       closed := some ({ frame := v.clock.frame, tick := v.here.tick }, .clockStop) } ∧
            (unlocked = k.flags.clockUnlocked ∨ (left ∧ unlocked = true)) ∧
            ((∀ o : OutputId, v.runs[o] = none) → suspect = k.flags.suspect ∧ devices = k.suspects)) ∧
        (v.groups[g].current = none → q.groups[g].take = v.groups[g].take)) ∧
      q.schedule = [] ∧ (∀ o : OutputId, q.runs[o] = none) ∧ q.marks = v.marks ∧ q.inputs = v.inputs ∧
      q.userBits = v.userBits ∧ q.bus = v.bus ∧ q.pins = v.pins ∧ q.hold = v.hold ∧
      q.owed = { v.owed with unlocked := false } ∧ (v.storeSound → ∀ a, a < 4 ∨ 7 < a → q.word a = v.word a))

/-- R11, R12, R16, R187: the row drives HREF to a level; a change of level is taken at the third reference tick that samples
it, and a rise is an arrival, which finds the clock's part of a frame boundary made (R12). An arrival in LOCKING or LOCKED that crash lock does not judge stores its error and advances the
lock run. `c` is the clock with the arrival taken. R17, R20: an arrival in FREE with reference use on, or in HOLDOVER, moves
the clock to LOCKING, and one that crash lock declines is that spell's first arrival; crash eligible is cleared by it. -/
def Obligations.ArrivalsAdvanceTheLockRun : Prop :=
  (∀ (w : Nat) (level : Bool) (s : State),
    let u0 := State.upTo w { s with pins := { s.pins with href := { s.pins.href with driven := level } } }
    let u1 := { u0 with pins := { u0.pins with href := { u0.pins.href with level := !u0.pins.href.level, samples := 0 } } }
    let u := u1.closeClock
    let run := exec (.hrefArrival w level) s
    let m := rateTicks u.clock.rate
    let p := u.here.tick
    let e : Int := if p ≤ (m - 1) / 2 then (p : Int) else (p : Int) - (m : Int)
    let c := { u.clock with arrived := true, missingRun := 0
                            ordered := some { error := e, takenIn := u.clock.state } }
    (u0.pins.href.samples < 3 → run = .next u0) ∧
    (3 ≤ u0.pins.href.samples → u0.pins.href.level = true → run = .next u1) ∧
    (3 ≤ u0.pins.href.samples → u0.pins.href.level = false →
      (u.clock.state = .stopped ∨ u.clock.arrived = true ∨ (u.clock.state = .freeRun ∧ u.clock.refUse = false) →
        run = .next u) ∧
      (u.clock.arrived = false → u.clock.crashEligible = false →
        (u.clock.state = .locking → e.natAbs ≤ u.clock.window → u.clock.lockRun < 7 →
          run = .next { u with clock := { c with lockRun := u.clock.lockRun + 1 } }) ∧
        (u.clock.state = .locking → u.clock.window < e.natAbs →
          run = .next { u with clock := { c with lockRun := 0 } }) ∧
        (u.clock.state = .locking → e.natAbs ≤ u.clock.window → u.clock.lockRun = 7 →
          run = .next
            (({ u with clock := { c with lockRun := 0, state := .locked }
                       writer := { u.writer with clock := true } }).handReport
              { position := u.here, urgent := false, body := .clockState .locking .locked .lockRun none })) ∧
        (u.clock.state = .locked → e.natAbs ≤ u.clock.window →
          run = .next { u with clock := { c with lockRun := 0 } }) ∧
        (u.clock.state = .locked → u.clock.window < e.natAbs → u.clock.lockRun < 3 →
          run = .next { u with clock := { c with lockRun := u.clock.lockRun + 1 } }) ∧
        (u.clock.state = .locked → u.clock.window < e.natAbs → u.clock.lockRun = 3 →
          run = .next
            (((({ u with clock := { c with lockRun := 0, crashEligible := true, state := .locking }
                         writer := { u.writer with clock := true } }).handReport
              { position := u.here, urgent := false, body := .clockState .locked .locking .unlockRun none
              }).unlockedNotice).setOwed { u.owed with unlocked := false }))) ∧
      (u.clock.arrived = false →
        (e.natAbs ≤ 8 * u.clock.slew ∨ u.clock.crashPermit = false ∨ u.anyOpen = true) →
        ((u.clock.state = .freeRun ∧ u.clock.refUse = true) ∨ u.clock.state = .holdover →
          ∃ q, run = .next q ∧
            q.clock = { u.clock with
              state := .locking, arrived := true, missingRun := 0, crashEligible := false, holdoverValue := none,
              holdoverCount := 0, lockRun := if e.natAbs ≤ u.clock.window then 1 else 0,
              ordered := some { error := e, takenIn := .locking } } ∧
            q = { ({ u with writer := { u.writer with clock := true } }).handReport
                  { position := u.here, urgent := false
                    body := .clockState u.clock.state .locking .arrival none } with clock := q.clock }) ∧
        (u.clock.state = .locking → u.clock.crashEligible = true → u.clock.lockRun < 7 →
          run = .next { u with clock := { u.clock with
            arrived := true, missingRun := 0, crashEligible := false,
            ordered := some { error := e, takenIn := .locking },
            lockRun := if e.natAbs ≤ u.clock.window then u.clock.lockRun + 1 else 0 } }))))

/-- R17, R20, R21, R35, R71, R78, R142, R170: a crash lock, in LOCKING at the spell's first arrival or straight from FREE or
HOLDOVER, cuts the frame at the arrival; CLOCK_STATE, when the arrival moved the clock, and CLOCK_STEPPED with the step, the
error and the cut frame are accepted in that order, and every block that keeps cadences or words takes the step. The frame's
scans end first: `u` is the state that finds the arrival due, and `v` the state after those scans. The step's silence count and
automatic check are owed (log entry 4). Here with no tune pending. R33, R35: at the step an active port re-anchors, and a pending
setting or off then applies and is reported with cause STEP (the anchor of an inactive port's off, and the level and pulse of a
port after an off, are log entry 14, the model's reading). R11, R17, R20: what makes an arrival that is due one that may cut
the frame, as it does when no take is open. That CLOCK_STATE carries the arrival's position in the cut frame is log entry 35, the
model's choice. -/
def Obligations.CrashLockCutsTheFrame : Prop :=
  (∀ (w : Nat) (level : Bool) (s : State),
    let u0 := State.upTo w { s with pins := { s.pins with href := { s.pins.href with driven := level } } }
    let u := State.closeClock
      { u0 with pins := { u0.pins with href := { u0.pins.href with level := true, samples := 0 } } }
    let v := State.scanLooks 128 u
    let error := fun (z : State) =>
      if z.here.tick ≤ (rateTicks z.clock.rate - 1) / 2 then (z.here.tick : Int)
      else (z.here.tick : Int) - (rateTicks z.clock.rate : Int)
    let crash := fun (z : State) => z.clock.arrived = false ∧
      ((z.clock.state = .locking ∧ z.clock.crashEligible = true ∧ z.clock.lockRun < 7) ∨
        (z.clock.state = .freeRun ∧ z.clock.refUse = true) ∨ z.clock.state = .holdover) ∧
      8 * z.clock.slew < (error z).natAbs ∧ z.clock.crashPermit = true ∧ z.anyOpen = false
    3 ≤ u0.pins.href.samples → u0.pins.href.level = false → crash u → crash v → v.clock.pendingTune = none →
      ∃ q, exec (.hrefArrival w level) s = .next q ∧
        q.clock = { v.clock with
          state := .locking, frame := v.clock.frame + 1, tick := 0, phase := .single, correction := 0, missingRun := 0,
          lockRun := if v.clock.state = .locking then v.clock.lockRun + 1 else 1, crashEligible := false,
          holdoverValue := if v.clock.state = .locking then v.clock.holdoverValue else none,
          holdoverCount := if v.clock.state = .locking then v.clock.holdoverCount else 0,
          ordered := none, arrived := false, settleOwed := false } ∧
        (v.bus.ready = true → reportsWaiting v.writer.queue + 2 ≤ 64 →
          ∃ rest, q.writer.queue = v.writer.queue ++
            (if v.clock.state = .locking then [] else
              [.report { position := v.here, urgent := false
                         body := .clockState v.clock.state .locking .arrival none }]) ++
            [.report { position := { frame := v.clock.frame + 1, tick := 0 }, urgent := false
                       body := .clockStepped ((v.here.tick : Int) - (rateTicks v.clock.rate : Int)) (error v)
                         v.clock.frame }] ++ rest) ∧
        (∀ i : PortId, (∀ x, v.ports[i].active = some x → v.ports[i].pending = none →
            q.ports[i] = { v.ports[i] with anchor := v.clock.frame + 1, cadenceFrame := 0, level := false,
                                           pulse := none, nextEvent := 0 }) ∧
          (v.ports[i].active = none → v.ports[i].pending = none → q.ports[i] = v.ports[i]) ∧
          (∀ x, v.ports[i].pending = some (.setting x) →
            q.ports[i] = { active := some x, pending := none, applyFrame := none, anchor := v.clock.frame + 1,
                           cadenceFrame := 0, level := false, pulse := none, nextEvent := 0 }) ∧
          (v.ports[i].pending = some .off → q.ports[i] =
            if v.ports[i].active = none then
              { v.ports[i] with pending := none, applyFrame := none, level := false, pulse := none }
            else { active := none, pending := none, applyFrame := none, anchor := v.clock.frame + 1, cadenceFrame := 0,
                   level := false, pulse := none, nextEvent := 0 })) ∧
        (∀ o : OutputId, q.outputs[o].anchor = v.clock.frame + 1 ∧ q.outputs[o].wordFrame = 0 ∧
          q.outputs[o].pending = none ∧
          q.outputs[o].settings = (match v.outputs[o].pending with
            | some x => x
            | none => v.outputs[o].settings)) ∧
        (∀ i : InputId, q.inputs[i].receiver ≠ .word ∧ q.inputs[i].badWords = v.inputs[i].badWords) ∧
        q.schedule = v.schedule ∧ q.marks = v.marks ∧ q.userBits = v.userBits ∧ q.bus = v.bus ∧ q.pins = v.pins ∧
        q.hold = v.hold ∧ q.owed = { v.owed with count := true, check := true } ∧
        (v.storeSound → ∀ a, a < 4 ∨ 7 < a → q.word a = v.word a)) ∧
  (∀ (i : PortId) (s : State),
    let anchored := { s.ports[i] with
      anchor := s.clock.frame, cadenceFrame := 0, level := false, pulse := none, nextEvent := 0 }
    let applies := fun (p : Port) (outcome : PortOutcome) (width : Nat) =>
      State.stepPort i s = State.rateNotice ((s.setPort i p).handReport
        { position := s.here, urgent := false, body := .portApplied i outcome .step p.anchor width })
    (∀ x, s.ports[i].pending = some (.setting x) →
      applies { anchored with active := some x, pending := none, applyFrame := none } .active (x.width s.ticks)) ∧
    (∀ y, s.ports[i].active = some y → s.ports[i].pending = some .off →
      applies { anchored with active := none, pending := none, applyFrame := none } .off 0) ∧
    (s.ports[i].active = none → s.ports[i].pending = some .off →
      applies { s.ports[i] with pending := none, applyFrame := none, level := false, pulse := none } .off 0)) ∧
  (∀ s : State, s.clock.settleOwed = false →
    let m := rateTicks s.clock.rate
    let error : Int := if s.here.tick ≤ (m - 1) / 2 then (s.here.tick : Int) else (s.here.tick : Int) - (m : Int)
    (s.mayCut = true ↔ 3 ≤ s.pins.href.samples ∧ s.pins.href.level = false ∧ s.clock.arrived = false ∧
      ((s.clock.state = .freeRun ∧ s.clock.refUse = true) ∨ s.clock.state = .holdover ∨
        ((s.clock.state = .locking ∨ s.clock.state = .locked) ∧ s.clock.crashEligible = true)) ∧
      8 * s.clock.slew < error.natAbs ∧ s.clock.crashPermit = true))

/-- R2, R8, R12, R13, R18, R19, R23, R27, R38, R59, R96, R117, R141, R170: the frame boundary in the blocks that keep count of
frames, the automatic check made there, and the notice to open takes when its tune moves the clock out of LOCKED. `v` is the
state at the end of the frame's last reference tick. At another instant no frame passes, and what an earlier command of the
boundary's instant has left owed is done (log entry 4). -/
def Obligations.FrameBoundaryAdvancesTheFrame : Prop :=
  ∀ (w : Nat) (s : State),
    let v := (s.upTo w).finishTick
    (v.clock.state ≠ .stopped → rateTicks v.clock.rate ≤ v.clock.tick + 1 → v.holdsTick = false →
      ∃ q, exec (.frameBoundary w) s = .next q ∧
        q.clock.frame = v.clock.frame + 1 ∧ q.clock.tick = 0 ∧ q.clock.phase = .single ∧ q.clock.arrived = false ∧
        q.clock.rate = v.clock.rate ∧ q.clock.startCount = v.clock.startCount ∧
        (∀ x, v.clock.pendingTune = some x → q.clock.slew = x.slew ∧ q.clock.window = x.window ∧
          q.clock.holdoverLimit = x.holdover ∧ q.clock.crashPermit = x.crash ∧ q.clock.refUse = x.refUse ∧
          q.clock.pendingTune = none ∧ (x.refUse = false → q.clock.state = .freeRun ∧ q.clock.correction = 0)) ∧
        (v.clock.pendingTune = none →
          let missed := v.clock.refUse && !v.clock.arrived
          let run := if missed then min 65535 (v.clock.missingRun + 1) else v.clock.missingRun
          q.clock.missingRun = run ∧ q.clock.lockRun = (if missed then 0 else v.clock.lockRun) ∧
          (v.clock.state = .holdover → q.clock.holdoverCount = min 65535 (v.clock.holdoverCount + 1)) ∧
          (v.clock.state ≠ .holdover → q.clock.holdoverCount = v.clock.holdoverCount) ∧
          (v.clock.state = .freeRun → q.clock.correction = 0) ∧
          ((v.clock.state = .locked ∨ v.clock.state = .locking) → run < 4 →
            q.clock.settleOwed = false ∧ q.clock.ordered = none ∧
            q.clock.correction = saturate v.clock.slew ((v.clock.ordered.map fun e => e.error).getD 0) ∧
            q.clock.history =
              (if (v.clock.ordered.map fun e => e.takenIn) = some .locked then
                pushHistory v.clock.history q.clock.correction else v.clock.history))) ∧
        (∀ d : DeviceId, q.devices[d] = v.devices[d].map fun x =>
          if x.state = .jamming then x else { x with sinceWord := min 65535 (x.sinceWord + 1) }) ∧
        (∀ i : PortId, q.ports[i].active = v.ports[i].active ∧ q.ports[i].anchor = v.ports[i].anchor ∧
          ∀ x, v.ports[i].active = some x → q.ports[i].cadenceFrame =
            if v.ports[i].cadenceFrame + 1 < x.frames then v.ports[i].cadenceFrame + 1 else 0) ∧
        (∀ (i : LineId) (g : GroupId), v.lines[i].group = some g → v.lines[i].pulse = none →
          v.lines[i].pending = none → q.lines[i].level = v.groups[g].isOpen) ∧
        (∀ o : OutputId, q.outputs[o].anchor = v.outputs[o].anchor ∧
          (v.outputs[o].wordFrame + 1 < rateSpan v.clock.rate →
            q.outputs[o].wordFrame = v.outputs[o].wordFrame + 1) ∧
          (rateSpan v.clock.rate ≤ v.outputs[o].wordFrame + 1 →
            q.outputs[o].wordFrame = 0 ∧ q.outputs[o].boundaryOwed = true)) ∧
        q.scanner.point = (if v.bus.ready = true ∧ v.scanner.point = none then some 0 else v.scanner.point) ∧
        (∀ (o : OutputId) (d : DeviceId) (x : Device), v.clock.pendingTune = none → v.runs[o] = none →
          v.outputs[o].settings.mode ≠ .off → v.outputs[o].state ≠ .waking → v.outputs[o].state ≠ .bursting →
          v.outputs[o].request = none → v.devices[d] = some x → x.settings.jamOutput = some o → x.jamWanted = true →
          (∀ (g : GroupId) (k : Take), v.groups[g].current ≠ some k ∨ ∀ (e : DeviceId) (y : Device),
            v.devices[e] = some y → y.settings.jamOutput = some o → y.settings.policy = .deferInTake →
            k.lists e = false) →
          q.outputs[o].request = some (v.clock.frame + 1) ∧
            ∃ r, q.runs[o] = some r ∧ r.origin = .auto ∧ r.phase = .requested ∧ r.startFrame = v.clock.frame + 1) ∧
        (∀ (x : Tune) (g : GroupId) (k : Take), v.clock.pendingTune = some x → x.refUse = false →
          v.clock.state = .locked → v.groups[g].current = some k →
          q.groups[g].take = some { k with flags := { k.flags with clockUnlocked := true } }) ∧
        q.owed = { unlocked := false, count := false, check := false } ∧
        q.schedule = v.schedule ∧ q.marks = v.marks ∧ q.userBits = v.userBits ∧ q.uses = v.uses ∧
        (v.storeSound → ∀ a, a < 4 ∨ 7 < a → q.word a = v.word a)) ∧
    (v.clock.state = .stopped ∨ v.clock.tick + 1 < rateTicks v.clock.rate ∨ v.holdsTick = true →
      let u := s.upTo w
      ∃ q, exec (.frameBoundary w) s = .next q ∧
        (u.owed = { unlocked := false, count := false, check := false } → q = u) ∧
        q.owed = { unlocked := false, count := false, check := false } ∧ q.clock = u.clock ∧
        q.groups = (if u.owed.unlocked then u.unlockedNotice.groups else u.groups) ∧
        q.devices = (if u.owed.count then u.devices.map fun y => y.map fun x =>
          if x.state = .jamming then x else { x with sinceWord := min 65535 (x.sinceWord + 1) } else u.devices) ∧
        (u.owed.check = false → q.runs = u.runs ∧ q.outputs = u.outputs))

/-- R13, R18, R19, R22, R141: the two transitions a frame boundary may owe, HREF_MISSING and HOLDOVER_EXPIRY; R12, R13, R23:
how the boundary is then settled: the correction from the state, the error used, and the mirror rewritten. -/
def Obligations.MissingAndExpiryLeaveTheLock : Prop :=
  (∀ (w : Nat) (s : State),
    let u := s.after w
    u.clock.settleOwed = true →
    (u.clock.refUse = true → 4 ≤ u.clock.missingRun → u.clock.state = .locked →
      exec (.hrefMissing w) s = .next (((State.settleClock
        (({ u with
            clock := { u.clock with state := .holdover, holdoverValue := some (historyMean u.clock.history),
                                    holdoverCount := 0 }
            writer := { u.writer with clock := true } }).handReport
          { position := u.here, urgent := true
            body := .clockState .locked .holdover .missing (some (historyMean u.clock.history)) })).unlockedNotice).setOwed
        { u.owed with unlocked := false })) ∧
    (u.clock.refUse = true → 4 ≤ u.clock.missingRun → u.clock.state = .locking →
      let q := State.settleClock
        (({ u with clock := { u.clock with state := .freeRun, crashEligible := false }
                   writer := { u.writer with clock := true } }).handReport
          { position := u.here, urgent := true, body := .clockState .locking .freeRun .missing none })
      exec (.hrefMissing w) s = .next
        (if u.owed.unlocked then q.unlockedNotice.setOwed { u.owed with unlocked := false } else q)) ∧
    (u.clock.state = .holdover → u.clock.holdoverLimit ≤ u.clock.holdoverCount →
      exec (.holdoverExpiry w) s = .next (State.settleClock
        (({ u with clock := { u.clock with state := .freeRun, holdoverValue := none }
                   writer := { u.writer with clock := true } }).handReport
          { position := u.here, urgent := true, body := .clockState .holdover .freeRun .expiry none })))) ∧
  (∀ s : State, s.storeSound →
    let q := s.settleClock
    q.clock.ordered = none ∧ q.clock.settleOwed = false ∧ q.clock.frame = s.clock.frame ∧
      q.clock.state = s.clock.state ∧
      (s.clock.state = .freeRun → q.clock.correction = 0) ∧
      (s.clock.state = .locking ∨ s.clock.state = .locked →
        q.clock.correction = saturate s.clock.slew ((s.clock.ordered.map fun e => e.error).getD 0)) ∧
      (s.clock.state = .holdover → q.clock.correction = saturate s.clock.slew (s.clock.holdoverValue.getD 0)) ∧
      (s.bus.ready = true → q.word 0x0005 = lo16 s.clock.frame ∧ q.word 0x0006 = hi16 s.clock.frame ∧
        q.word 0x0007 = s.clock.state.code) ∧
      (s.bus.ready = false → q.store = s.store) ∧
      (∀ a, a < 5 ∨ 7 < a → q.word a = s.word a))

/-- R1, R14: where the insertions and deletions of a correction fall, and what they do to picture time. -/
def Obligations.CorrectionsSpreadOverTheFrame : Prop :=
  (∀ (r n : Nat), r ≤ 10 → 1 ≤ n → n ≤ 255 →
    let m := rateTicks r
    let at_ := fun k => (2 * k + 1) * m / (2 * n)
    (∀ j k, j < k → k < n → at_ j < at_ k) ∧ m / 510 ≤ at_ 0 ∧ at_ (n - 1) ≤ m - 1 - m / 510 ∧
      (∀ t, (isChangeTick m n t = true ↔ ∃ k, k < n ∧ at_ k = t) ∧
        (isChangeTick m (-(n : Int)) t = true ↔ ∃ k, k < n ∧ at_ k = t))) ∧
  (∀ s : State, s.clock.state ≠ .stopped →
    let m := rateTicks s.clock.rate
    (s.clock.phase = .single → 0 < s.clock.correction → isChangeTick m s.clock.correction s.clock.tick = true →
      s.beginTick.clock = { s.clock with phase := .held }) ∧
    (s.clock.phase = .held → s.clock.tick + 1 < m → 0 < s.clock.correction →
      s.beginTick.clock = { s.clock with tick := s.clock.tick + 1, phase := .single }) ∧
    (s.clock.correction < 0 → s.clock.tick + 1 < m →
      isChangeTick m s.clock.correction (s.clock.tick + 1) = true →
      s.beginTick.clock = { s.clock with tick := s.clock.tick + 1, phase := .early } ∧
      s.beginTick.secondTick.clock = { s.clock with tick := s.clock.tick + 2, phase := .late }) ∧
    (s.clock.correction = 0 → s.clock.tick + 1 < m →
      s.beginTick.clock = { s.clock with tick := s.clock.tick + 1, phase := .single })) ∧
  (∀ s : State, s.clock.state = .stopped → s.beginTick.clock = s.clock)

/-! ## Labels and offsets -/

/-- R45, R48: labels and label counts at a rate code without drop. -/
def Obligations.LabelsWithoutDrop : Prop :=
  ∀ r : Nat, r ≤ 10 → labelDrop r = 0 →
    let b := labelBase r
    (∀ l : Label, labelValid r l = true →
      labelCount r l = ((l.hh * 60 + l.mm) * 60 + l.ss) * b + l.ff ∧ labelCount r l ≤ 86400 * b - 1) ∧
    labelCount r { hh := 0, mm := 0, ss := 0, ff := 0 } = 0 ∧
    labelCount r { hh := 23, mm := 59, ss := 59, ff := b - 1 } = 86400 * b - 1 ∧ 86400 * b = dayFrames r ∧
    (∀ n, n < dayFrames r →
      labelOf r n = { ff := n % b, ss := n / b % 60, mm := n / b / 60 % 60, hh := n / b / 3600 } ∧
      labelValid r (labelOf r n) = true ∧ labelCount r (labelOf r n) = n ∧ (labelOf r n).hh ≤ 23)

/-- R46, R49: labels and label counts at the drop-frame rate codes 3 and 8. -/
def Obligations.LabelsWithDrop : Prop :=
  ∀ r d : Nat, ((r = 3 ∧ d = 2) ∨ (r = 8 ∧ d = 4)) →
    let b := labelBase r
    let p := 10 * 60 * b - 9 * d
    let q := 60 * b - d
    (∀ l : Label, labelValid r l = true →
      labelCount r l + d * ((60 * l.hh + l.mm) - (60 * l.hh + l.mm) / 10) =
        ((l.hh * 60 + l.mm) * 60 + l.ss) * b + l.ff) ∧
    (∀ l : Label, l.hh ≤ 23 → l.mm ≤ 59 → l.mm % 10 ≠ 0 → l.ss = 0 → l.ff = d - 1 →
      labelValid r l = false ∧
        labelCount r l = labelCount r { hh := l.hh, mm := l.mm - 1, ss := 59, ff := b - 1 }) ∧
    labelCount r { hh := 23, mm := 59, ss := 59, ff := b - 1 } = dayFrames r - 1 ∧ dayFrames r = 144 * p ∧
    (r = 3 → b = 30 ∧ p = 17982 ∧ q = 1798 ∧ dayFrames r = 2589408) ∧
    (r = 8 → b = 60 ∧ p = 35964 ∧ q = 3596 ∧ dayFrames r = 5178816) ∧
    (∀ n, n < dayFrames r →
      let blocks := n / p
      let m := n % p
      let nominal := if m < d then n + 9 * d * blocks else n + 9 * d * blocks + d * ((m - d) / q)
      labelOf r n = { ff := nominal % b, ss := nominal / b % 60, mm := nominal / b / 60 % 60
                      hh := nominal / b / 3600 } ∧
      labelValid r (labelOf r n) = true ∧ labelSkipped r (labelOf r n) = false ∧ labelCount r (labelOf r n) = n)

/-- R51: the frame difference is the nearer way round the label day. -/
def Obligations.FrameDifferenceIsTheNearerWay : Prop :=
  ∀ (r : Nat) (x : Int), r ≤ 10 →
    let day := (dayFrames r : Int)
    let delta := nearestDay (dayFrames r) x
    day % 2 = 0 ∧ -(day / 2) ≤ delta ∧ delta ≤ day / 2 - 1 ∧ (∃ k : Int, delta = x + k * day) ∧
      (∀ y : Int, -(day / 2) ≤ y → y ≤ day / 2 - 1 → (∃ k : Int, y = x + k * day) → y = delta) ∧
      (x = day / 2 → delta = -(day / 2)) ∧ (x = 0 → delta = 0) ∧
      (day / 2 < x → x < day → delta = -(day - x) ∧ delta < 0)

/-- R50, R52, R53, R54, R55: the offset of a word, the jump test and the drift estimate. -/
def Obligations.OffsetsJumpsAndDrift : Prop :=
  (∀ (start r delay : Nat) (l : Label) (p : Position), r ≤ 10 →
    let ca := (start + p.frame.toNat) % dayFrames r
    let ce := (labelCount r l + rateSpan r) % dayFrames r
    let exact : Int := nearestDay (dayFrames r) ((ca : Int) - (ce : Int)) * (rateTicks r : Int) + p.tick - delay
    let o := wordOffset start r l p delay
    (2147483647 < exact → o = 2147483647) ∧ (exact < -2147483647 → o = -2147483647) ∧
      (-2147483647 ≤ exact → exact ≤ 2147483647 → o = exact)) ∧
  (∀ (r : Nat) (o l : Int), (isJump r none o = false) ∧
    (isJump r (some l) o = true ↔ rateTicks r / 8 < (o - l).natAbs)) ∧
  (∀ (o0 o1 : Int) (f0 f1 : FrameNo),
    let span := (f1 - f0).toInt
    let exact := Int.tdiv ((o1 - o0) * 1024) span
    (span ≤ 0 → driftEstimate o0 f0 o1 f1 = none) ∧
    (0 < span → -32767 ≤ exact → exact ≤ 32767 → driftEstimate o0 f0 o1 f1 = some exact) ∧
    (0 < span → 32767 < exact → driftEstimate o0 f0 o1 f1 = some 32767) ∧
    (0 < span → exact < -32767 → driftEstimate o0 f0 o1 f1 = some (-32767)))

/-- R56, R79, R186: a composed word is valid at an input, and every field reads back. -/
def Obligations.ComposedWordsReadBack : Prop :=
  ∀ (r : Nat) (l : Label) (jam : Bool) (user take : Byte), r ≤ 10 → labelValid r l = true →
    let x := composeWord l r jam user take
    wordValid x = true ∧ wordLabel x = l ∧ wordRate x = r ∧ wordJam x = jam ∧ wordByte x 5 = user ∧
      wordByte x 6 = take ∧ readWord x = { label := l, rate := r, jam := jam, user := user, take := take } ∧
      x.extractLsb' 0 12 = 0x9D3#12 ∧ wordByte x 7 = 255 - byteSum x 7

/-! ## Rate ports and tally lines -/

/-- R26: which PORT_SET arguments make a valid setting against M, and the width of its pulse. -/
def Obligations.PortSettingsInRange : Prop :=
  ∀ (r : Nat) (a : PortSetArgs), r ≤ 10 →
    let m := rateTicks r
    let e := a.events.toNat
    let c := a.frames.toNat
    ((∃ x, readPortSet m a = some x) ↔
      (a.port.toNat < 12 ∧ 1 ≤ e ∧ e ≤ c * m / 2 ∧ 1 ≤ c ∧ c ≤ 1024 ∧ a.phase.toNat < c * m / e ∧
        a.invert.toNat ≤ 1 ∧
        ((a.shape = 0 ∧ 1 ≤ a.width.toNat) ∨ a.shape = 1 ∨ (a.shape = 2 ∧ 1 ≤ a.gate.toNat ∧ a.gate.toNat < e)))) ∧
    (∀ i p, readPortSet m a = some (i, p) → i.val = a.port.toNat ∧ p.events = e ∧ p.frames = c ∧
      p.phase = a.phase.toNat ∧ p.invert = decide (a.invert = 1) ∧
      (a.shape = 0 → p.shape = .pulse a.width.toNat ∧ p.width m = min a.width.toNat (c * m / e - 1) ∧ 1 ≤ p.width m) ∧
      (a.shape = 1 → p.shape = .toggle ∧ p.width m = 0) ∧
      (a.shape = 2 → p.shape = .gate a.gate.toNat ∧ p.width m = 0))

/-- R30, R31, R32: PORT_SET and PORT_OFF, at once while STOPPED and pending while the clock runs. That a PORT_OFF with a port
number above 11 is refused BAD_ARG also while STOPPED is log entry 19, the model's choice: R31 refuses it while the clock
runs. -/
def Obligations.PortOrders : Prop :=
  ∀ (w : Nat) (n : SlotId) (t : Timing) (a : PortSetArgs) (port : Word) (s : State),
    (s.upTo w).bus.ready = true → t.timing = 0 →
    (let v := State.orderTaken n t (.portSet a) (s.upTo w)
     let m := rateTicks v.clock.rate
     (readPortSet m a = none →
       exec (.portSet w n t a) s = .next (State.completeSlot n .badArg Reply.zero none v)) ∧
     (∀ i p, readPortSet m a = some (i, p) →
       let f := match v.ports[i].active with
         | some x => v.clock.frame + BitVec.ofNat 32 (x.frames - v.ports[i].cadenceFrame)
         | none => v.clock.frame + 1
       (v.clock.state = .stopped →
         exec (.portSet w n t a) s = .next (State.completeSlot n .done (Reply.wideThen 0 (num (p.width m))) none
           (v.setPort i { v.ports[i] with active := some p, anchor := 0, cadenceFrame := 0, level := false,
                                          nextEvent := 0 }))) ∧
       (v.clock.state ≠ .stopped → v.ports[i].pending ≠ none →
         exec (.portSet w n t a) s = .next (State.completeSlot n .clash Reply.zero none v)) ∧
       (v.clock.state ≠ .stopped → v.ports[i].pending = none →
         exec (.portSet w n t a) s = .next (State.completeSlot n .done (Reply.wideThen f (num (p.width m))) none
           (v.setPort i { v.ports[i] with pending := some (.setting p), applyFrame := some f }))))) ∧
    (let v := State.orderTaken n t (.portOff port) (s.upTo w)
     (12 ≤ port.toNat → exec (.portOff w n t port) s = .next (State.completeSlot n .badArg Reply.zero none v)) ∧
     (∀ i : PortId, i.val = port.toNat →
       let f := match v.ports[i].active with
         | some x => v.clock.frame + BitVec.ofNat 32 (x.frames - v.ports[i].cadenceFrame)
         | none => v.clock.frame + 1
       (v.clock.state = .stopped →
         exec (.portOff w n t port) s = .next (State.completeSlot n .done Reply.zero none
           (v.setPort i { v.ports[i] with active := none }))) ∧
       (v.clock.state ≠ .stopped → v.ports[i].pending ≠ none →
         exec (.portOff w n t port) s = .next (State.completeSlot n .clash Reply.zero none v)) ∧
       (v.clock.state ≠ .stopped → v.ports[i].pending = none →
         exec (.portOff w n t port) s = .next (State.completeSlot n .done (Reply.wideThen f 0) none
           (v.setPort i { v.ports[i] with pending := some .off, applyFrame := some f })))))

/-- R33, R142: at its apply frame a port applies its pending setting or off, in port order with the other ports due there,
reports it, and open takes gain RATE_CHANGED; what the port's level and pulse are after an off is the model's choice (entry
14). R28, R29: a unit event acts on the level by the port's shape, at its own picture tick and at no other, also while a
setting waits for a later boundary; a pulse ends when its width has run, and one picture tick takes one off what is left of
it. R20, R21, R35: the picture tick of an arrival that crash-locks is no tick of the cut frame, so where an arrival is due that may
crash-lock, whether or not a take is still open, neither row makes its event before that arrival. -/
def Obligations.PortsApplySettingsAndMakeEvents : Prop :=
  (∀ (w : Nat) (i : PortId) (s : State),
    let u := s.upTo w
    let owed := fun (j : PortId) => u.clock.state ≠ .stopped ∧ u.ports[j].pending ≠ none ∧
      u.ports[j].applyFrame = some u.clock.frame
    (¬ owed i ∨ (∃ j, j < i ∧ owed j) → exec (.portSettingApply w i) s = .next u) ∧
    (∀ x, owed i → (∀ j, j < i → ¬ owed j) → u.ports[i].pending = some (.setting x) →
      exec (.portSettingApply w i) s = .next (State.rateNotice
        ((u.setPort i { active := some x, pending := none, applyFrame := none, anchor := u.clock.frame,
                        cadenceFrame := 0, level := false, pulse := none, nextEvent := 0 }).handReport
          { position := u.here, urgent := false
            body := .portApplied i .active .cadence u.clock.frame (x.width (rateTicks u.clock.rate)) }))) ∧
    (owed i → (∀ j, j < i → ¬ owed j) → u.ports[i].pending = some .off →
      exec (.portSettingApply w i) s = .next (State.rateNotice
        ((u.setPort i { u.ports[i] with active := none, pending := none, applyFrame := none, level := false,
                                        pulse := none }).handReport
          { position := u.here, urgent := false
            body := .portApplied i .off .cadence u.ports[i].anchor 0 })))) ∧
  (∀ (w : Nat) (i : PortId) (s : State),
    let u := s.upTo w
    let p := u.ports[i]
    let m := rateTicks u.clock.rate
    (∀ x, p.active = some x →
      let due := u.clock.state ≠ .stopped ∧ p.nextEvent < x.events ∧
        x.phase + (p.nextEvent * (x.frames * m) + x.events - 1) / x.events = p.cadenceFrame * m + u.clock.tick ∧
        u.mayCut = false
      let owed := p.pending ≠ none ∧ p.applyFrame = some u.clock.frame
      (due → ¬ owed →
        (∀ k, x.shape = .pulse k → exec (.unitEvent w i) s = .next (u.setPort i
          { p with nextEvent := p.nextEvent + 1, level := true,
                   pulse := some (min k (x.frames * m / x.events - 1)) })) ∧
        (x.shape = .toggle → exec (.unitEvent w i) s = .next (u.setPort i
          { p with nextEvent := p.nextEvent + 1, level := !p.level })) ∧
        (∀ g, x.shape = .gate g → exec (.unitEvent w i) s = .next (u.setPort i
          { p with nextEvent := p.nextEvent + 1,
                   level := if p.nextEvent = 0 then true else if p.nextEvent = g then false else p.level }))) ∧
      (¬ due ∨ owed → exec (.unitEvent w i) s = .next u)) ∧
    (p.active = none → exec (.unitEvent w i) s = .next u) ∧
    (u.clock.state ≠ .stopped → p.pulse = some 0 → u.mayCut = false →
      exec (.portPulseEnd w i) s = .next (u.setPort i { p with level := false, pulse := none })) ∧
    (p.pulse ≠ some 0 ∨ u.mayCut = true → exec (.portPulseEnd w i) s = .next u) ∧
    (∀ j : PortId, u.countPulses.ports[j] = { u.ports[j] with pulse := u.ports[j].pulse.map fun k => k - 1 }))

/-- R41: the seven TALLY_SET actions taken from a slot. While the clock runs each waits as the line's pending action, and on
a bound line the four that drive a level are refused BOUND; while it is STOPPED the three that change how a line is driven
apply at once and the four are refused NO_CLOCK. An argument out of range is refused BAD_ARG. -/
def Obligations.TallyActionsFromASlot : Prop :=
  (∀ (w : Nat) (n : SlotId) (t : Timing) (i : LineId) (s : State),
    let u := s.upTo w
    let line : Word := num i.val
    let kept := fun (c : Instr) (o : Order) (x : TallyAction) =>
      let v := State.orderTaken n t o u
      exec c s = .next (State.completeSlot n .done (Reply.wideThen (v.clock.frame + 1) 0) none
        (v.setLine i { v.lines[i] with pending := some x }))
    let bound := fun (c : Instr) (o : Order) =>
      exec c s = .next (State.completeSlot n .bound Reply.zero none (State.orderTaken n t o u))
    let order := fun (action value invert : Word) =>
      Order.tallySet { line := line, action := action, value := value, invert := invert }
    u.bus.ready = true → t.timing = 0 → u.clock.state ≠ .stopped →
    (u.lines[i].group = none →
      kept (.tallySetSet w n t line) (order 0 0 0) .set ∧ kept (.tallySetClear w n t line) (order 1 0 0) .clear ∧
      kept (.tallySetToggle w n t line) (order 2 0 0) .toggle ∧
      (∀ k : Word, k ≠ 0 → kept (.tallySetPulse w n t line k) (order 3 k 0) (.pulse k.toNat))) ∧
    (u.lines[i].group ≠ none →
      bound (.tallySetSet w n t line) (order 0 0 0) ∧ bound (.tallySetClear w n t line) (order 1 0 0) ∧
      bound (.tallySetToggle w n t line) (order 2 0 0) ∧
      (∀ k : Word, k ≠ 0 → bound (.tallySetPulse w n t line k) (order 3 k 0))) ∧
    (∀ (g : GroupId) (b : Bool), kept (.tallySetBind w n t line (num g.val) (flag b)) (order 4 (num g.val) (flag b))
      (.bind g b)) ∧
    (∀ b : Bool, kept (.tallySetUnbind w n t line (flag b)) (order 5 0 (flag b)) (.unbind b)) ∧
    (∀ b : Bool, kept (.tallySetPolarity w n t line (flag b)) (order 6 (flag b) 0) (.polarity b))) ∧
  (∀ (w : Nat) (n : SlotId) (t : Timing) (i : LineId) (s : State),
    let u := s.upTo w
    let line : Word := num i.val
    let refused := fun (c : Instr) (o : Order) =>
      exec c s = .next (State.completeSlot n .noClock Reply.zero none (State.orderTaken n t o u))
    let applied := fun (c : Instr) (o : Order) (f : State → Line → Line) =>
      let v := State.orderTaken n t o u
      exec c s = .next (State.completeSlot n .done (Reply.wideThen v.clock.frame 0) none
        (v.setLine i (f v v.lines[i])))
    let order := fun (action value invert : Word) =>
      Order.tallySet { line := line, action := action, value := value, invert := invert }
    u.bus.ready = true → t.timing = 0 → u.clock.state = .stopped →
      (refused (.tallySetSet w n t line) (order 0 0 0) ∧ refused (.tallySetClear w n t line) (order 1 0 0) ∧
        refused (.tallySetToggle w n t line) (order 2 0 0) ∧
        (∀ k : Word, k ≠ 0 → refused (.tallySetPulse w n t line k) (order 3 k 0))) ∧
      (∀ (g : GroupId) (b : Bool),
        applied (.tallySetBind w n t line (num g.val) (flag b)) (order 4 (num g.val) (flag b))
          fun v l => { l with group := some g, invert := b, level := v.groups[g].isOpen, pulse := none,
                              pending := l.pending.filter fun x => !x.drives }) ∧
      (∀ b : Bool, applied (.tallySetUnbind w n t line (flag b)) (order 5 0 (flag b))
        fun _ l => { l with group := none, invert := b, level := false, pulse := none }) ∧
      (∀ b : Bool, applied (.tallySetPolarity w n t line (flag b)) (order 6 (flag b) 0) fun _ l => { l with invert := b })) ∧
  (∀ (c : Instr) (w : Nat) (n : SlotId) (t : Timing) (a : TallySetArgs) (s : State),
    orderRow c = some (w, n, t, .tallySet a) → (s.upTo w).bus.ready = true → t.timing = 0 →
    (8 ≤ a.line.toNat ∨ 7 ≤ a.action.toNat ∨ (a.action = 3 ∧ a.value = 0) ∨ (a.action = 4 ∧ 8 ≤ a.value.toNat) ∨
      ((a.action = 4 ∨ a.action = 5) ∧ 1 < a.invert.toNat) ∨ (a.action = 6 ∧ 1 < a.value.toNat)) →
    exec c s = .next (State.completeSlot n .badArg Reply.zero none (State.orderTaken n t (.tallySet a) (s.upTo w))))

/-- R38, R39, R40: what each of the seven actions does to a line. R41: the order in which a line takes a frame boundary: the
countdown, the following of its group, its pending action; a pulse counted down to 0 ends as TALLY_PULSE_END, and the
following and the pending action come after its end (that the end is a row of its own is log entry 4, the model's choice; that
a pending BIND reads its group as the following does is log entry 34, the model's choice).
R41, R155: a TALLY_SET that the Schedule fires applies at its boundary, or is refused BOUND. -/
def Obligations.TallyLinesAtTheBoundary : Prop :=
  (∀ (isOpen : GroupId → Bool) (l : Line),
    let followed := fun (x : Line) => match x.group with
      | some g => { x with level := isOpen g }
      | none => x
    let acted := fun (x : Line) => match x.pending with
      | some a => Line.act isOpen a { x with pending := none }
      | none => x
    (l.act isOpen .set = { l with level := true, pulse := none }) ∧
    (l.act isOpen .clear = { l with level := false, pulse := none }) ∧
    (l.act isOpen .toggle = { l with level := !l.level, pulse := none }) ∧
    (∀ k, l.act isOpen (.pulse k) = { l with level := true, pulse := some k }) ∧
    (∀ g b, l.act isOpen (.bind g b) = { l with
      group := some g, invert := b, level := isOpen g, pulse := none,
      pending := match l.pending with
        | some (.bind h c) => some (.bind h c)
        | some (.unbind c) => some (.unbind c)
        | some (.polarity c) => some (.polarity c)
        | _ => none }) ∧
    (∀ b, l.act isOpen (.unbind b) = { l with group := none, invert := b, level := false, pulse := none }) ∧
    (∀ b, l.act isOpen (.polarity b) = { l with invert := b }) ∧
    (l.pulse = none → l.boundary isOpen = acted (followed l)) ∧
    (∀ k, 1 < k → l.pulse = some k → l.boundary isOpen = acted (followed { l with pulse := some (k - 1) })) ∧
    (∀ k, k ≤ 1 → l.pulse = some k → l.boundary isOpen = { l with pulse := some 0 })) ∧
  (∀ (w : Nat) (i : LineId) (s : State),
    let u := s.after w
    let x := { u.lines[i] with level := false, pulse := none }
    let followed := match x.group with
      | some g => { x with level := u.groups[g].isOpen }
      | none => x
    (u.clock.state ≠ .stopped → u.lines[i].pulse = some 0 →
      (x.pending = none → exec (.tallyPulseEnd w i) s = .next (u.setLine i followed)) ∧
      (∀ a, x.pending = some a → exec (.tallyPulseEnd w i) s =
        .next (u.setLine i (Line.act u.groupOpen a { followed with pending := none })))) ∧
    (u.clock.state = .stopped ∨ u.lines[i].pulse ≠ some 0 → exec (.tallyPulseEnd w i) s = .next u)) ∧
  (∀ (w : Nat) (n : SlotId) (s : State) (e : Entry) (a : TallySetArgs) (i : LineId) (x : TallyAction),
    let u := s.upTo w
    let v := { u with schedule := u.schedule.filter fun y => y.slot != n }.putWord (0x0100 + 32 * n.val) 2
    let drives := x = .set ∨ x = .clear ∨ x = .toggle ∨ ∃ k, x = .pulse k
    u.clock.state ≠ .stopped → u.entryOf n = some e → e.again = none → e.due = u.clock.frame →
    (∀ y ∈ u.schedule, y.due = u.clock.frame → ¬ y.slot < n) →
    u.slotWord n 0 = 3 → u.slotWord n 1 = e.kind → u.slotWord n 2 = ~~~ e.kind →
    readOrder e.kind (u.slotWord n) = some (.tallySet a) → readTally a = some (i, x) →
    (u.lines[i].group = none ∨ ¬ drives →
      exec (.scheduleFiring w n) s = .next (State.completeSlot n .done (Reply.wideThen v.clock.frame 0) none
        (v.setLine i (Line.act v.groupOpen x v.lines[i])))) ∧
    (u.lines[i].group ≠ none → drives →
      exec (.scheduleFiring w n) s = .next (State.completeSlot n .bound Reply.zero none v)))

/-! ## Time word outputs -/

/-- R60, R68: which OUTPUT_SET arguments are refused BAD_ARG and what the others mean. R66, R67, R68: OUTPUT_SET at once while
STOPPED and pending while the clock runs, refused BUSY on an output with a run; one accepted at the instant of a word boundary
that the output has not yet acted on is taken after that boundary has begun, so that a setting due there applies. USER_TABLE
replaces all sixteen entries together. -/
def Obligations.OutputAndUserTableOrders : Prop :=
  (∀ a : OutputSetArgs,
    (readOutputSet a = none ↔
      (3 < a.output.toNat ∨ 2 < a.mode.toNat ∨ a.burst = 0 ∨ 15 < a.burst.toNat ∨ 15 < a.wake.toNat ∨
        255 < a.grace.toNat ∨ a.attempts = 0 ∨ 15 < a.attempts.toNat ∨ a.verify = 0 ∨ 255 < a.verify.toNat ∨
        (a.group ≠ 0xFFFF ∧ 7 < a.group.toNat) ∨ 15 < a.idleIndex.toNat ∨ 15 < a.openIndex.toNat)) ∧
    (∀ o x, readOutputSet a = some (o, x) → o.val = a.output.toNat ∧
      x.mode = (if a.mode = 0 then .off else if a.mode = 1 then .continuous else .burst) ∧
      x.burst = a.burst.toNat ∧ x.wake = a.wake.toNat ∧ x.grace = a.grace.toNat ∧ x.attempts = a.attempts.toNat ∧
      x.verify = a.verify.toNat ∧ (x.group = none ↔ a.group = 0xFFFF) ∧
      (∀ g, x.group = some g → g.val = a.group.toNat) ∧ x.idleIndex.val = a.idleIndex.toNat ∧
      x.openIndex.val = a.openIndex.toNat)) ∧
  (∀ (w : Nat) (n : SlotId) (t : Timing) (a : OutputSetArgs) (bytes : Vector Word 16) (s : State),
    (s.upTo w).bus.ready = true → t.timing = 0 →
    (let v := State.orderTaken n t (.outputSet a) (s.upTo w)
     (readOutputSet a = none →
       exec (.outputSet w n t a) s = .next (State.completeSlot n .badArg Reply.zero none v)) ∧
     (∀ o x, readOutputSet a = some (o, x) →
       (v.runs[o] ≠ none → exec (.outputSet w n t a) s = .next (State.completeSlot n .busy Reply.zero none v)) ∧
       (v.runs[o] = none → v.clock.state = .stopped →
         exec (.outputSet w n t a) s = .next (State.completeSlot n .done (Reply.wideThen v.clock.frame 0) none
           (v.setOutput o { v.outputs[o] with settings := x, state := if x.mode = .off then .off else .silent,
                                              level := false }))) ∧
       (v.runs[o] = none → v.clock.state ≠ .stopped →
         let b := if v.outputs[o].boundaryOwed = true then State.wordBoundary o v else v
         exec (.outputSet w n t a) s = .next (State.completeSlot n .done
           (Reply.wideThen (b.clock.frame + BitVec.ofNat 32 (rateSpan b.clock.rate - b.outputs[o].wordFrame)) 0) none
           (b.setOutput o { b.outputs[o] with pending := some x }))))) ∧
    (let v := State.orderTaken n t (.userTable bytes) (s.upTo w)
     ((∀ k : Fin 16, bytes[k].toNat ≤ 255) →
       exec (.userTable w n t bytes) s = .next (State.completeSlot n .done Reply.zero none
         { v with userBits := bytes.map fun x => x.setWidth 8 })) ∧
     ((∃ k : Fin 16, 255 < bytes[k].toNat) →
       exec (.userTable w n t bytes) s = .next (State.completeSlot n .badArg Reply.zero none v))))

/-- R61, R65: what the row does at any word boundary, in its four steps: the word in progress finishes, with the burst end
notice at a burst's last jam word; a pending setting applies; a request held from an earlier frame starts or the state goes
on, with the burst begun notice on entry to BURSTING and the burst cut notice where OFF drops the request; a new word begins,
or the line is low. R56, R66: the word carries the label of this frame, jam flag 1 in BURSTING alone, the user byte and the
take byte. R61, R62, R63, R68: words counted, settings applied, states followed, bursts started. That a request is known by
the frame it was accepted in is log entry 22, the model's choice. -/
def Obligations.OutputsAtAWordBoundary : Prop :=
  (∀ (w : Nat) (o : OutputId) (s : State),
    let u := s.upTo w
    let x := u.outputs[o]
    let finished := u.setOutput o x.finish
    let a := if x.word ≠ none ∧ x.state = .bursting ∧ x.finish.wordsLeft = some 0 then State.burstEnd o finished
      else finished
    let b := a.setOutput o a.outputs[o].settle
    let y := b.outputs[o]
    let starts := y.request ≠ none ∧ y.request ≠ some b.clock.frame
    let z := if starts then y.startBurst else y.nextState
    let c := b.setOutput o z
    let d := if starts ∧ y.state = .off then State.burstCut o c
      else if y.state ≠ .bursting ∧ z.state = .bursting then State.burstBegun o c.rosterFirst else c
    let q := d.outputs[o]
    let sends := q.state = .continuous ∨ q.state = .waking ∨ q.state = .bursting ∨ q.state = .grace
    let openTake := q.settings.group.bind fun g => d.groups[g].current
    let user := fun k : Fin 16 => d.userBits[k]
    let word := composeWord
      (labelOf d.clock.rate ((d.clock.startCount + d.clock.frame.toNat) % dayFrames d.clock.rate)) d.clock.rate
      (decide (q.state = .bursting)) (user (if openTake.isSome then q.settings.openIndex else q.settings.idleIndex))
      (BitVec.ofNat 8 ((openTake.map fun k => k.number).getD 0))
    (u.clock.state ≠ .stopped → x.boundaryOwed = true →
      exec (.wordBoundary w o) s = .next (State.wordBoundary o u) ∧
      State.wordBoundary o u = d.setOutput o (if sends then
        { q with boundaryOwed := false, word := some { bits := word, nextCell := 0 } }
        else { q with boundaryOwed := false, level := false })) ∧
    (u.clock.state = .stopped ∨ x.boundaryOwed = false → exec (.wordBoundary w o) s = .next u)) ∧
  (∀ x : Output,
    (x.word = none → x.finish = x) ∧
    (x.word ≠ none → (x.state = .off ∨ x.state = .silent ∨ x.state = .continuous) →
      x.finish = { x with word := none }) ∧
    (∀ k, x.word ≠ none → (x.state = .waking ∨ x.state = .bursting ∨ x.state = .grace) → x.wordsLeft = some k →
      x.finish = { x with word := none, wordsLeft := some (k - 1) }) ∧
    (x.pending = none → x.settle = x) ∧
    (∀ new, x.pending = some new → x.settle = { x with
      settings := new, pending := none,
      state := match new.mode with
        | .off => .off
        | .continuous => .continuous
        | .burst => if x.state = .grace then .grace else .silent
      wordsLeft := if x.state = .grace ∧ new.mode = .burst then x.wordsLeft else none
      cut := x.settle.cut }) ∧
    (∀ new, x.pending = some new → (x.state = .waking ∨ x.state = .bursting) → x.settle.cut = false) ∧
    (x.wordsLeft = some 0 →
      (x.state = .waking → x.cut = false →
        x.nextState = { x with state := .bursting, wordsLeft := some x.settings.burst }) ∧
      (x.state = .waking → x.cut = true → x.nextState = { x with state := .silent, wordsLeft := none, cut := false }) ∧
      (x.state = .bursting → x.settings.mode = .continuous →
        x.nextState = { x with state := .continuous, wordsLeft := none, cut := false }) ∧
      (x.state = .bursting → x.settings.mode = .burst → x.cut = true →
        x.nextState = { x with state := .silent, wordsLeft := none, cut := false }) ∧
      (x.state = .bursting → x.settings.mode = .burst → x.cut = false → 1 ≤ x.settings.grace →
        x.nextState = { x with state := .grace, wordsLeft := some x.settings.grace }) ∧
      (x.state = .bursting → x.settings.mode = .burst → x.cut = false → x.settings.grace = 0 →
        x.nextState = { x with state := .silent, wordsLeft := none }) ∧
      (x.state = .grace → x.nextState = { x with state := .silent, wordsLeft := none })) ∧
    (x.wordsLeft ≠ some 0 → x.nextState = x) ∧
    ((x.state = .continuous ∨ x.state = .grace) →
      x.startBurst = { x with request := none, state := .bursting, wordsLeft := some x.settings.burst }) ∧
    (x.state = .silent → x.startBurst =
      if 1 ≤ x.settings.wake then { x with request := none, state := .waking, wordsLeft := some x.settings.wake }
      else { x with request := none, state := .bursting, wordsLeft := some x.settings.burst }) ∧
    (x.state = .off → x.startBurst = { x with request := none }))

/-- R57: a cell begins at its own picture tick, and the line inverts at a bit's start and in the middle of a 1. R20, R21, R71:
the picture tick of an arrival that crash-locks is no tick of the cut frame, so where an arrival is due that may crash-lock,
whether or not a take is still open, the row begins no cell before that arrival. -/
def Obligations.CellsCarryTheBiphaseCode : Prop :=
  ∀ (w : Nat) (o : OutputId) (s : State) (x : SentWord),
    let u := s.upTo w
    let out := u.outputs[o]
    let m := rateTicks u.clock.rate
    let due := u.clock.state ≠ .stopped ∧ out.boundaryOwed = false ∧ x.nextCell < 128 ∧
      (x.nextCell * (rateSpan u.clock.rate * m) + 127) / 128 = out.wordFrame * m + u.clock.tick ∧
      u.mayCut = false
    out.word = some x →
    (due → exec (.cellStart w o) s = .next (u.setOutput o { out with
      word := some { x with nextCell := x.nextCell + 1 },
      level := if x.nextCell % 2 = 0 ∨ x.bits.getLsbD (x.nextCell / 2) = true then !out.level else out.level })) ∧
    (¬ due → exec (.cellStart w o) s = .next u)

/-! ## Time word inputs -/

/-- R75: INPUT_SET. -/
def Obligations.InputSetTakesEffectAtOnce : Prop :=
  ∀ (w : Nat) (n : SlotId) (t : Timing) (a : InputSetArgs) (s : State),
    let v := State.orderTaken n t (.inputSet a) (s.upTo w)
    (s.upTo w).bus.ready = true → t.timing = 0 →
    (8 ≤ a.input.toNat ∨ 2 ≤ a.enable.toNat →
      exec (.inputSet w n t a) s = .next (State.completeSlot n .badArg Reply.zero none v)) ∧
    (∀ i : InputId, i.val = a.input.toNat → a.enable.toNat ≤ 1 →
      ∃ y : Input, exec (.inputSet w n t a) s = .next (State.completeSlot n .done Reply.zero none (v.setInput i y)) ∧
        y.enable = decide (a.enable = 1) ∧ y.delay = a.delay.toNat ∧ y.badWords = v.inputs[i].badWords ∧
        y.bound = v.inputs[i].bound ∧
        (v.inputs[i].enable = y.enable → y = { v.inputs[i] with delay := a.delay.toNat }) ∧
        (v.inputs[i].enable ≠ y.enable → y.receiver = (if y.enable then .hunt else .idle) ∧ y.aligned = false ∧
          y.half = none ∧ y.hunt = [] ∧ y.bits = [] ∧ y.synced = false))

/-- R187: every reference tick samples HREF, the MARK and the TWI pins, counting how often in a row a new level has been
sampled; the row drives a TWI pin to a level, and its change of level is taken at the third of those ticks. R76, R77, R79:
what that change does at an enabled input, by the interval it ends: the bits decoded, the line errors, and the broken word a
line error makes of a word whose sync was received; and what a decoded bit does: it joins the hunt window, starts a word with
the sync, is appended to the word, or shows a following word's sync to be wrong. -/
def Obligations.LevelChangesDecodeBits : Prop :=
  (∀ s : State,
    let sampled := fun (p : Pin) =>
      if p.driven = p.level then { p with samples := 0 } else { p with samples := min 3 (p.samples + 1) }
    s.beginTick.pins.href = sampled s.pins.href ∧
      (∀ i : MarkId, s.beginTick.pins.marks[i] = sampled s.pins.marks[i]) ∧
      (∀ i : InputId, s.beginTick.pins.words[i] = sampled s.pins.words[i])) ∧
  (∀ (w : Nat) (level : Bool) (i : InputId) (s : State),
    let u0 := State.upTo w { s with pins := { s.pins with
      words := s.pins.words.set i { s.pins.words[i] with driven := level } } }
    let pin := u0.pins.words[i]
    let u := { u0 with pins := { u0.pins with
      words := u0.pins.words.set i { pin with level := !pin.level, samples := 0 } } }
    let x := u.inputs[i]
    let lost := { x with
      since := 0, receiver := .hunt, aligned := false, half := none, hunt := [], bits := [], synced := false,
      lastBit := none, awaitStart := false, following := [],
      badWords := if x.receiver = .word ∧ x.synced = true ∧ x.bound ≠ none then min 65535 (x.badWords + 1)
        else x.badWords }
    (pin.samples < 3 → exec (.twiLevelChange w i level) s = .next u0) ∧
    (3 ≤ pin.samples → x.enable = false → exec (.twiLevelChange w i level) s = .next u) ∧
    (3 ≤ pin.samples → x.enable = true → x.since < 23000 →
      (x.aligned = false →
        exec (.twiLevelChange w i level) s = .next (u.setInput i { x with since := 0, aligned := true })) ∧
      (x.aligned = true → x.awaitStart = false → x.lastBit = none →
        (x.since < 5000 → exec (.twiLevelChange w i level) s = .next (u.setInput i lost)) ∧
        (5000 ≤ x.since → x.since < 12000 → x.half = none →
          exec (.twiLevelChange w i level) s = .next (u.setInput i { x with since := 0, half := some x.since })) ∧
        (∀ h, 5000 ≤ x.since → x.since < 12000 → x.half = some h →
          exec (.twiLevelChange w i level) s =
            .next (u.setInput i (Input.decoded true (h + x.since) { x with since := 0 }))) ∧
        (12000 ≤ x.since → x.half = none →
          exec (.twiLevelChange w i level) s = .next (u.setInput i (Input.decoded false x.since { x with since := 0 }))) ∧
        (12000 ≤ x.since → x.half ≠ none → exec (.twiLevelChange w i level) s = .next (u.setInput i lost))) ∧
      (x.aligned = true → x.awaitStart = true → 5000 ≤ x.since →
        exec (.twiLevelChange w i level) s = .next (u.setInput i { x with since := 0, awaitStart := false })) ∧
      (∀ b, x.aligned = true → x.awaitStart = false → x.lastBit = some b → b.value = none → 5000 ≤ x.since →
        x.since < 12000 →
        exec (.twiLevelChange w i level) s = .next (u.setInput i
          { x with since := 0, awaitStart := true, lastBit := some { b with value := some true } })))) ∧
  (∀ (x : Input) (b : Bool) (n : Nat),
    let y := Input.decoded b n x
    let window := (if x.hunt.length < 12 then x.hunt else x.hunt.drop 1) ++ [b]
    y.lastLength = n ∧ y.half = none ∧
    (x.receiver = .hunt → window = syncBits →
      y.receiver = .word ∧ y.bits = syncBits ∧ y.synced = true ∧ y.hunt = []) ∧
    (x.receiver = .hunt → window ≠ syncBits → y.receiver = .hunt ∧ y.hunt = window ∧ y.badWords = x.badWords) ∧
    (x.receiver = .word → x.lastBit = none →
      (x.synced = true → y.receiver = .word ∧ y.bits = x.bits ++ [b] ∧ y.synced = true ∧
        (x.bits.length = 62 → y.lastBit = some { length := n, elapsed := 0, value := none })) ∧
      (x.synced = false → x.bits.length = 11 → x.bits ++ [b] = syncBits →
        y.receiver = .word ∧ y.bits = syncBits ∧ y.synced = true) ∧
      (x.synced = false → x.bits.length = 11 → x.bits ++ [b] ≠ syncBits →
        y.receiver = .hunt ∧ y.hunt = x.bits ++ [b] ∧ y.bits = [] ∧
        y.badWords = if x.bound = none then x.badWords else min 65535 (x.badWords + 1))) ∧
    (x.receiver = .word → x.lastBit ≠ none → y.following = x.following ++ [b] ∧ y.bits = x.bits))

/-- R76, R77, R79: line quiet makes a broken word of a word whose sync was received. R76, R78, R79, R80: a word's arrival,
bit 62's length after the start of bit 63: discarded with no bound device, counted bad, or handed to the bound device's
record with every field of it (R186), wholly before a frame boundary's silence step or wholly after it (R86). -/
def Obligations.QuietAndArrivalsEndWords : Prop :=
  (∀ (w : Nat) (i : InputId) (s : State),
    let u := s.upTo w
    let x := u.inputs[i]
    (x.enable = true → x.since = 23000 → x.aligned = true →
      exec (.lineQuiet w i) s = .next (u.setInput i { x with
        receiver := .hunt, aligned := false, half := none, hunt := [], bits := [], synced := false, lastBit := none,
        awaitStart := false, following := [],
        badWords := if x.receiver = .word ∧ x.synced = true ∧ x.bound ≠ none then min 65535 (x.badWords + 1)
          else x.badWords })) ∧
    (x.enable = false ∨ x.since < 23000 → exec (.lineQuiet w i) s = .next u)) ∧
  (∀ (w : Nat) (i : InputId) (s : State) (b : LastBit) (z : Bool),
    let u := s.upTo w
    let x := u.inputs[i]
    let word := wordOfBits (x.bits ++ [z])
    let y := { x with bits := x.following, synced := false, following := [], lastBit := none }
    x.enable = true → x.lastBit = some b → b.value = some z → b.length ≤ b.elapsed →
    (x.bound = none → exec (.timeWordArrival w i) s = .next (u.setInput i y)) ∧
    (x.bound ≠ none → wordValid word = false →
      exec (.timeWordArrival w i) s = .next (u.setInput i { y with badWords := min 65535 (x.badWords + 1) })) ∧
    (∀ d, x.bound = some d → wordValid word = true →
      exec (.timeWordArrival w i) s =
        .next (State.rosterWord d
          { label := wordLabel word, rate := wordRate word, jam := wordJam word, user := wordByte word 5
            take := wordByte word 6 } x.delay (State.rosterFirst (u.setInput i y)))))

/-! ## The Device Roster -/

/-- R81, R82: which DEVICE_ENROL arguments are refused BAD_ARG and what the others mean. R82, R83, R113: DEVICE_ENROL makes a
fresh record on the inputs it names; DEVICE_DROP clears the record and unbinds its input, with a DEVICE_STATE whose strikes
are 0 (log entry 17, the model's reading); either way the device leaves every run's sets first (log entry 31, the model's
choice; here where no run ends by its leaving). Either finds a frame boundary's silence step wholly made or not begun. -/
def Obligations.DevicesEnrolAndDrop : Prop :=
  (∀ a : DeviceEnrolArgs,
    (readEnrol a = none ↔
      (15 < a.device.toNat ∨ (a.input ≠ 0xFFFF ∧ 7 < a.input.toNat) ∨ (a.jamOutput ≠ 0xFFFF ∧ 3 < a.jamOutput.toNat) ∨
        a.threshold = 0 ∨ 255 < a.threshold.toNat ∨ 2 < a.filter.toNat ∨ 2 < a.policy.toNat ∨ a.silence = 0 ∨
        255 < a.silence.toNat ∨ a.driftWindow.toNat < 8 ∨ 256 < a.driftWindow.toNat ∨
        a.hard.toNat < a.soft.toNat ∨ 2147483647 < a.hard.toNat)) ∧
    (∀ d x, readEnrol a = some (d, x) → d.val = a.device.toNat ∧ (x.input = none ↔ a.input = 0xFFFF) ∧
      (∀ i, x.input = some i → i.val = a.input.toNat) ∧ (x.jamOutput = none ↔ a.jamOutput = 0xFFFF) ∧
      (∀ o, x.jamOutput = some o → o.val = a.jamOutput.toNat) ∧
      (∀ g : GroupId, x.groups.getLsbD g.val = a.groups.getLsbD g.val) ∧ x.soft = a.soft.toNat ∧
      x.hard = a.hard.toNat ∧ x.threshold = a.threshold.toNat ∧
      x.filter = (if a.filter = 0 then .lead else if a.filter = 1 then .lag else .both) ∧
      x.policy = (if a.policy = 0 then .none else if a.policy = 1 then .atOnce else .deferInTake) ∧
      x.silence = a.silence.toNat ∧ x.driftWindow = a.driftWindow.toNat)) ∧
  (∀ (w : Nat) (n : SlotId) (t : Timing) (a : DeviceEnrolArgs) (s : State),
    let v := State.orderTaken n t (.deviceEnrol a) (s.upTo w)
    let taken := fun (d : DeviceId) (named : Option InputId) =>
      ∃ (e : DeviceId) (x : Device), e ≠ d ∧ v.devices[e] = some x ∧ x.settings.input = named ∧ named ≠ none
    (s.upTo w).bus.ready = true → t.timing = 0 →
    (readEnrol a = none →
      exec (.deviceEnrol w n t a) s = .next (State.completeSlot n .badArg Reply.zero none v)) ∧
    (∀ d x, readEnrol a = some (d, x) →
      (taken d x.input →
        exec (.deviceEnrol w n t a) s = .next (State.completeSlot n .clash Reply.zero none v)) ∧
      (¬ taken d x.input → (∃ y, v.devices[d] = some y ∧ y.state = .jamming) →
        exec (.deviceEnrol w n t a) s = .next (State.completeSlot n .busy Reply.zero none v)) ∧
      (¬ taken d x.input → (∀ y, v.devices[d] = some y → y.state ≠ .jamming) →
        let v := v.rosterFirst
        ∃ q : State, exec (.deviceEnrol w n t a) s = .next (State.completeSlot n .done Reply.zero none
            ((State.leaveNotice d q).handReport
              { position := v.here, urgent := false,
                body := .deviceState d (v.devices[d].map fun y => y.state) (some .absent) .enrol 0 none 0 })) ∧
          q = { v with
                devices := v.devices.set d (some
                  { settings := x, state := .absent, strikes := 0, lastOffset := none, validRun := 0, sinceWord := 0,
                    drift := none, windowOffset := 0, windowFrame := 0, windowCount := 0, capture := none,
                    breaches := 0, jamWanted := false }),
                inputs := q.inputs } ∧
          ∀ i : InputId, q.inputs[i] = { v.inputs[i] with
            bound := if x.input = some i then some d
                     else if v.inputs[i].bound = some d then none else v.inputs[i].bound }))) ∧
  (∀ (w : Nat) (n : SlotId) (t : Timing) (device : Word) (s : State),
    let v := State.orderTaken n t (.deviceDrop device) (s.upTo w)
    (s.upTo w).bus.ready = true → t.timing = 0 →
    (16 ≤ device.toNat →
      exec (.deviceDrop w n t device) s = .next (State.completeSlot n .badArg Reply.zero none v)) ∧
    (∀ d : DeviceId, d.val = device.toNat →
      (v.devices[d] = none →
        exec (.deviceDrop w n t device) s = .next (State.completeSlot n .noDevice Reply.zero none v)) ∧
      (∀ x, v.rosterFirst.devices[d] = some x →
        let v := v.rosterFirst
        ∃ q : State, exec (.deviceDrop w n t device) s = .next (State.completeSlot n .done Reply.zero none
            ((State.leaveNotice d q).handReport
              { position := v.here, urgent := false, body := .deviceState d (some x.state) none .drop 0 none 0 })) ∧
          q = { v with devices := v.devices.set d none, inputs := q.inputs } ∧
          ∀ i : InputId, q.inputs[i] = { v.inputs[i] with
            bound := if v.inputs[i].bound = some d then none else v.inputs[i].bound }))) ∧
  (∀ (d : DeviceId) (q : State),
    (∀ (o : OutputId) (r : Run) (f : FrameNo), q.runs[o] = some r → r.phase = .verifying f →
      dropFrom r.waiting d ≠ 0 ∨ inSet r.waiting d = false ∨ inSet r.listeners d = false) →
    State.leaveNotice d q = { q with runs := (State.leaveNotice d q).runs } ∧
      ∀ o : OutputId, (State.leaveNotice d q).runs[o] = q.runs[o].map fun r =>
        if inSet r.listeners d = true then
          { r with listeners := dropFrom r.listeners d, waiting := dropFrom r.waiting d, ok := dropFrom r.ok d,
                   failed := dropFrom r.failed d, blind := dropFrom r.blind d }
        else r)

/-- R84: FAULT_ACK, and the fresh capture that the next hard breach then makes (R94); while a capture is present a hard breach
is only counted. -/
def Obligations.FaultAckClearsTheCapture : Prop :=
  ∀ (w : Nat) (n : SlotId) (t : Timing) (device : Word) (s : State),
    let v := State.orderTaken n t (.faultAck device) (s.upTo w)
    (s.upTo w).bus.ready = true → t.timing = 0 →
    (16 ≤ device.toNat →
      exec (.faultAck w n t device) s = .next (State.completeSlot n .badArg Reply.zero none v)) ∧
    (∀ d : DeviceId, d.val = device.toNat →
      (v.devices[d] = none →
        exec (.faultAck w n t device) s = .next (State.completeSlot n .noDevice Reply.zero none v)) ∧
      (∀ x, v.devices[d] = some x →
        exec (.faultAck w n t device) s = .next (State.completeSlot n .done Reply.zero none
          (v.setDevice d (some { x with capture := none, breaches := 0 }))))) ∧
    (∀ (q : State) (d : DeviceId) (x : Device) (o : Int) (l : Label), q.devices[d] = some x → x.capture = none →
      State.hardBreach d o l q =
        (q.setDevice d (some { x with capture := some { position := q.here, offset := o, label := l } })).handReport
          { position := q.here, urgent := true, body := .fault d o l x.state }) ∧
    (∀ (q : State) (d : DeviceId) (x : Device) (o : Int) (l : Label) (c : Capture), q.devices[d] = some x →
      x.capture = some c →
      State.hardBreach d o l q = q.setDevice d (some { x with breaches := min 65535 (x.breaches + 1) }))

/-- R96, R98, R139: a device whose count has passed its silence limit enters SILENT, in device id order, and every open
take that lists it gains SUSPECT. `c` is the state with the boundary's count made. R86: another event of the boundary's instant
finds the records before the count, or finds every silence of it entered. -/
def Obligations.SilenceEntersSilent : Prop :=
  (∀ (w : Nat) (d : DeviceId) (s : State) (x : Device),
    let u := s.after w
    let c := if u.owed.count then
      { u with devices := u.devices.map fun y => y.map fun x =>
                 if x.state = .jamming then x else { x with sinceWord := min 65535 (x.sinceWord + 1) }
               owed := { u.owed with count := false } }
      else u
    c.devices[d] = some x →
    ((x.state = .acquiring ∨ x.state = .tracking ∨ x.state = .adrift ∨ x.state = .mismatch) →
      x.settings.silence < x.sinceWord →
      (∀ (e : DeviceId) (y : Device), e < d → c.devices[e] = some y →
        y.sinceWord ≤ y.settings.silence ∨ y.state = .absent ∨ y.state = .silent ∨ y.state = .jamming) →
      exec (.silence w d) s = .next (State.suspectNotice
        ((c.setDevice d (some { x with state := .silent, lastOffset := none, validRun := 0, windowCount := 0 })).handReport
          { position := u.here, urgent := false
            body := .deviceState d (some x.state) (some .silent) .silence x.strikes none 0 }) d)) ∧
    (x.sinceWord ≤ x.settings.silence ∨ x.state = .absent ∨ x.state = .silent ∨ x.state = .jamming →
      exec (.silence w d) s = .next u)) ∧
  (∀ s : State,
    (s.owed.count = true → s.rosterFirst = s) ∧
    (s.owed.count = false →
      s.rosterFirst.clock = s.clock ∧ s.rosterFirst.outputs = s.outputs ∧ s.rosterFirst.inputs = s.inputs ∧
      s.rosterFirst.runs = s.runs ∧ s.rosterFirst.owed = s.owed ∧
      ∀ d : DeviceId, s.rosterFirst.devices[d] = s.devices[d].map fun x =>
        if (x.state = .acquiring ∨ x.state = .tracking ∨ x.state = .adrift ∨ x.state = .mismatch) ∧
            x.settings.silence < x.sinceWord then
          { x with state := .silent, lastOffset := none, validRun := 0, windowCount := 0 }
        else x))

/-- R86 to R91, R94, R95: how a valid word, whatever its jam flag, user byte and take byte (R80), moves a record's state while the
clock runs: at another rate code, a first word,
the words of an acquisition, a hard breach, and the words judged in ADRIFT. R91, R92, R93: a word judged in TRACKING that is
no hard breach: a jump is reported and restarts the drift window, any other word is counted in it; either is a strike when it
lies beyond S in a direction the filter allows, and at the threshold DRIFT is written and the policy applied. The JUMP
report's strikes are those before the same word's strike (log entry 17, the model's reading). -/
def Obligations.WordsMoveTheRecord : Prop :=
  (∀ (d : DeviceId) (x : Device) (l : Label) (rate delay : Nat) (jam : Bool) (user take : Byte) (s : State),
    let o := wordOffset s.clock.startCount s.clock.rate l s.here delay
    let heard := { x with sinceWord := 0 }
    let given := fun (r : Nat) => ({ label := l, rate := r, jam := jam, user := user, take := take } : TimeWord)
    let word := State.rosterWord d (given s.clock.rate) delay s
    let foreign := State.rosterWord d (given rate) delay s
    let moved := fun (y : Device) (reason : DeviceReason) =>
      (s.setDevice d (some y)).handReport
        { position := s.here, urgent := false
          body := .deviceState d (some x.state) (some y.state) reason y.strikes (some o) 0 }
    let tracked := { heard with state := .tracking, strikes := 0, validRun := 0, windowOffset := o,
                                windowFrame := s.here.frame, windowCount := 0, lastOffset := some o }
    let adrift := { heard with state := .adrift, validRun := 0, windowCount := 0, lastOffset := some o }
    s.devices[d] = some x →
    (s.clock.state = .stopped → foreign = s) ∧
    (s.clock.state ≠ .stopped → rate ≠ s.clock.rate →
      (x.state = .mismatch → foreign = s.setDevice d (some heard)) ∧
      (x.state = .absent ∨ x.state = .acquiring ∨ x.state = .tracking ∨ x.state = .adrift ∨ x.state = .silent →
        foreign = (s.setDevice d (some { heard with
            state := .mismatch, lastOffset := none, validRun := 0, windowCount := 0 })).handReport
          { position := s.here, urgent := false
            body := .deviceState d (some x.state) (some .mismatch) .rate x.strikes none (BitVec.ofNat 32 rate) })) ∧
    (s.clock.state ≠ .stopped →
      (x.state = .absent ∨ x.state = .silent ∨ x.state = .mismatch →
        word = moved { heard with state := .acquiring, validRun := 1, lastOffset := some o } .firstWord) ∧
      (x.state = .acquiring → isJump s.clock.rate x.lastOffset o = true →
        word = s.setDevice d (some { heard with validRun := 1, lastOffset := some o })) ∧
      (x.state = .acquiring → isJump s.clock.rate x.lastOffset o = false → x.validRun < 2 →
        word = s.setDevice d (some { heard with validRun := x.validRun + 1, lastOffset := some o })) ∧
      (x.state = .acquiring → isJump s.clock.rate x.lastOffset o = false → 2 ≤ x.validRun →
        o.natAbs ≤ x.settings.hard → word = moved tracked .acquired) ∧
      ((x.state = .tracking ∨ (x.state = .acquiring ∧ isJump s.clock.rate x.lastOffset o = false ∧
          2 ≤ x.validRun)) → x.settings.hard < o.natAbs →
        word = State.hardBreach d o l ((moved adrift .breach).suspectNotice d)) ∧
      (x.state = .tracking → word = State.trackingWord d heard o l s) ∧
      (x.state = .adrift → x.settings.hard < o.natAbs →
        word = State.hardBreach d o l (s.setDevice d (some { heard with validRun := 0, lastOffset := some o }))) ∧
      (x.state = .adrift → x.settings.soft < o.natAbs → o.natAbs ≤ x.settings.hard →
        word = s.setDevice d (some { heard with validRun := 0, lastOffset := some o })) ∧
      (x.state = .adrift → o.natAbs ≤ x.settings.soft → x.settings.soft ≤ x.settings.hard →
        (x.validRun < 2 →
          word = s.setDevice d (some { heard with validRun := x.validRun + 1, lastOffset := some o })) ∧
        (2 ≤ x.validRun → word = moved tracked .recovered)))) ∧
  (∀ (d : DeviceId) (x : Device) (o : Int) (l : Label) (s : State),
    let f := s.here.frame
    let jump := isJump s.clock.rate x.lastOffset o = true
    let last := x.lastOffset.getD 0
    let estimate := driftEstimate x.windowOffset x.windowFrame o f
    let y : Device :=
      if jump then { x with windowOffset := o, windowFrame := f, windowCount := 0, lastOffset := some o }
      else if x.windowCount + 1 < x.settings.driftWindow then
        { x with windowCount := x.windowCount + 1, lastOffset := some o }
      else { x with windowCount := 0, windowOffset := o, windowFrame := f, lastOffset := some o,
                    drift := if estimate = none then x.drift else estimate }
    let t := if jump then (s.setDevice d (some y)).handReport
        { position := s.here, urgent := false
          body := .deviceState d (some .tracking) (some .tracking) .jump x.strikes (some o) (BitVec.ofInt 32 last) }
      else s
    let strikes := decide (x.settings.soft < o.natAbs) && (match x.settings.filter with
      | .lead => decide (o < 0)
      | .lag => decide (0 < o)
      | .both => true)
    let drift := fun (wanted : Bool) =>
      (t.setDevice d (some { y with strikes := 0, jamWanted := wanted })).handReport
        { position := t.here, urgent := false
          body := .drift d o x.settings.threshold y.drift x.settings.policy wanted }
    x.state = .tracking → o.natAbs ≤ x.settings.hard →
    (strikes = false → State.trackingWord d x o l s = t.setDevice d (some y)) ∧
    (strikes = true → x.strikes + 1 < x.settings.threshold →
      State.trackingWord d x o l s = t.setDevice d (some { y with strikes := x.strikes + 1 })) ∧
    (strikes = true → x.settings.threshold ≤ x.strikes + 1 → x.settings.policy = .none →
      State.trackingWord d x o l s = drift x.jamWanted) ∧
    (strikes = true → x.settings.threshold ≤ x.strikes + 1 → x.settings.policy ≠ .none →
      (x.settings.jamOutput = none → State.trackingWord d x o l s = drift true) ∧
      (∀ p, x.settings.jamOutput = some p → State.trackingWord d x o l s = State.autoCheck p (drift true))))

/-! ## Jamming -/

/-- R102, R103, R104: JAM on an output: refused in the order of R103's checks, or a run starts over every listener and the
order's completion waits for its end. A JAM that names a device is checked for the device, and then is a JAM on the device's
jam output. -/
def Obligations.JamStartsARun : Prop :=
  (∀ (w : Nat) (n : SlotId) (t : Timing) (number : Word) (s : State),
    let v := State.orderTaken n t (.jam 1 number) (s.upTo w)
    (s.upTo w).bus.ready = true → t.timing = 0 →
    (4 ≤ number.toNat →
      exec (.jam w n t 1 number) s = .next (State.completeSlot n .badArg Reply.zero none v)) ∧
    (∀ o : OutputId, o.val = number.toNat →
      let x := v.outputs[o]
      let listens := fun (d : DeviceId) => ∃ y, v.devices[d] = some y ∧ y.settings.jamOutput = some o
      let heard := fun (d : DeviceId) => ∃ y, v.devices[d] = some y ∧ y.settings.jamOutput = some o ∧
        y.settings.input ≠ none
      (v.clock.state = .stopped →
        exec (.jam w n t 1 number) s = .next (State.completeSlot n .noClock Reply.zero none v)) ∧
      (v.clock.state ≠ .stopped → x.settings.mode = .off →
        exec (.jam w n t 1 number) s = .next (State.completeSlot n .noPath Reply.zero none v)) ∧
      (v.clock.state ≠ .stopped → x.settings.mode ≠ .off →
        (v.runs[o] ≠ none ∨ x.state = .waking ∨ x.state = .bursting ∨ x.request ≠ none) →
        exec (.jam w n t 1 number) s = .next (State.completeSlot n .busy Reply.zero none v)) ∧
      (v.clock.state ≠ .stopped → x.settings.mode ≠ .off → v.runs[o] = none → x.state ≠ .waking →
        x.state ≠ .bursting → x.request = none →
        ∃ r : Run, exec (.jam w n t 1 number) s = .next { v with
            outputs := v.outputs.set o { x with request := some v.clock.frame },
            runs := v.runs.set o (some r) } ∧
          r.origin = .order n false false true ∧ r.attempts = 1 ∧ r.phase = .requested ∧
          r.startFrame = v.clock.frame ∧ r.ok = 0 ∧ r.failed = 0 ∧
          (∀ d : DeviceId, (inSet r.listeners d = true ↔ listens d) ∧ (inSet r.waiting d = true ↔ heard d) ∧
            (inSet r.blind d = true ↔ listens d ∧ ¬ heard d))))) ∧
  (∀ (tk : Taking) (number : Word) (v : State),
    (16 ≤ number.toNat → v.ownJam tk 0 number = refuse .badArg v) ∧
    (∀ d : DeviceId, d.val = number.toNat →
      (v.devices[d] = none → v.ownJam tk 0 number = refuse .noDevice v) ∧
      (∀ x, v.devices[d] = some x →
        (v.clock.state = .stopped → v.ownJam tk 0 number = refuse .noClock v) ∧
        (v.clock.state ≠ .stopped → x.settings.jamOutput = none →
          v.ownJam tk 0 number = refuse .noPath v) ∧
        (∀ o, x.settings.jamOutput = some o → v.ownJam tk 0 number = v.ownJam tk 1 (num o.val)))) ∧
    (∀ sel : Word, 2 ≤ sel.toNat → v.ownJam tk sel number = refuse .badArg v))

/-- R105, R106, R107, R140: the burst begun notice puts a pending listener into JAMMING, and the burst end notice opens the
verify windows. R112: the burst cut notice ends the run. R109: at the expiry frame a run below its attempt limit asks for
another burst; at the limit it ends. R86, R106, R108: a JAMMING listener's word verifies it while its run is VERIFYING and the
word lies within S; any other word is set aside, and changes only the silence count (log entry 30, the model's choice). R113:
a leave notice that empties the pending set in VERIFYING ends the run. R110, R111: at a run's end each pending listener that
is JAMMING enters ADRIFT, JAM_RESULT follows, urgent when any listener failed, then a single-shot JAM's completion; the record
becomes absent, and the automatic check of R117 is made. R102, R116: that check starts a run over the whole listener set when
its conditions hold, and changes nothing when they do not. -/
def Obligations.RunsFollowTheirBursts : Prop :=
  (∀ (o : OutputId) (r : Run) (s : State), s.runs[o] = some r →
    ((State.burstBegun o s).runs[o] = some { r with phase := .sending } ∧
      (∀ (d : DeviceId) (x : Device), s.devices[d] = some x →
        (inSet r.waiting d = true → x.state ≠ .jamming → (State.burstBegun o s).devices[d] = some
          { x with state := .jamming, validRun := 0, windowCount := 0, lastOffset := none }) ∧
        (inSet r.waiting d = false ∨ x.state = .jamming → (State.burstBegun o s).devices[d] = some x)) ∧
      (∀ (g : GroupId) (k : Take), s.groups[g].current = some k → k.listsAny r.listeners = true →
        (State.burstBegun o s).groups[g].take = some { k with flags := { k.flags with jammed := true } }) ∧
      (State.burstBegun o s).clock = s.clock ∧ (State.burstBegun o s).outputs = s.outputs ∧
      (State.burstBegun o s).inputs = s.inputs ∧ (State.burstBegun o s).marks = s.marks ∧
      (State.burstBegun o s).schedule = s.schedule) ∧
    (r.waiting ≠ 0 → State.burstEnd o s = s.setRun o (some { r with
      phase := .verifying (s.clock.frame + BitVec.ofNat 32 s.outputs[o].settings.verify) })) ∧
    (r.waiting = 0 → State.burstEnd o s = State.endRun o .complete s) ∧
    State.burstCut o s = State.endRun o .cut s) ∧
  (∀ (w : Nat) (o : OutputId) (s : State) (r : Run),
    let u := s.upTo w
    let x := u.outputs[o]
    u.clock.state ≠ .stopped → u.runs[o] = some r → r.phase = .verifying u.clock.frame →
    (r.attempts < x.settings.attempts → x.settings.mode ≠ .off → x.state ≠ .waking → x.state ≠ .bursting →
      x.request = none →
      exec (.verifyExpiry w o) s = .next { u with
        outputs := u.outputs.set o { x with request := some u.clock.frame },
        runs := u.runs.set o (some { r with attempts := r.attempts + 1, phase := .requested }) }) ∧
    (x.settings.attempts ≤ r.attempts → exec (.verifyExpiry w o) s = .next (State.endRun o .complete u))) ∧
  (∀ (d : DeviceId) (x : Device) (l : Label) (rate delay : Nat) (jam : Bool) (user take : Byte) (o : OutputId) (r : Run)
      (s : State),
    let v := wordOffset s.clock.startCount s.clock.rate l s.here delay
    let word := State.rosterWord d { label := l, rate := rate, jam := jam, user := user, take := take } delay s
    let verifies := (∃ f, r.phase = .verifying f) ∧ inSet r.waiting d = true ∧ rate = s.clock.rate ∧
      v.natAbs ≤ x.settings.soft
    let verified := (({ s with
        devices := s.devices.set d (some { x with
          state := .tracking, strikes := 0, validRun := 0, windowOffset := v, windowFrame := s.here.frame,
          windowCount := 0, lastOffset := some v, sinceWord := 0, jamWanted := false })
        runs := s.runs.set o (some { r with waiting := dropFrom r.waiting d, ok := addTo r.ok d }) }).handReport
      { position := s.here, urgent := false
        body := .deviceState d (some .jamming) (some .tracking) .verified 0 (some v) 0 })
    s.devices[d] = some x → x.state = .jamming → x.settings.jamOutput = some o → s.runs[o] = some r →
    s.clock.state ≠ .stopped →
    (verifies → dropFrom r.waiting d ≠ 0 → word = verified) ∧
    (verifies → dropFrom r.waiting d = 0 → word = State.endRun o .complete verified) ∧
    (¬ verifies → word = s.setDevice d (some { x with sinceWord := 0 }))) ∧
  (∀ (d : DeviceId) (o : OutputId) (r : Run) (f : FrameNo) (s : State),
    s.runs[o] = some r → r.phase = .verifying f → inSet r.listeners d = true → inSet r.waiting d = true →
    dropFrom r.waiting d = 0 →
    (∀ (p : OutputId) (k : Run), p ≠ o → s.runs[p] = some k → inSet k.listeners d = false) →
    (∀ (e : DeviceId) (x : Device), s.devices[e] = some x → x.jamWanted = false) →
      State.leaveNotice d s = State.endRun o .complete (s.setRun o (some { r with
        listeners := dropFrom r.listeners d, waiting := dropFrom r.waiting d, ok := dropFrom r.ok d,
        failed := dropFrom r.failed d, blind := dropFrom r.blind d }))) ∧
  (∀ (o : OutputId) (cause : RunCause) (r : Run) (s : State), s.runs[o] = some r →
    let failed := r.failed ||| r.waiting
    let fails := (List.finRange 16).filterMap fun d =>
      (s.devices[d].filter fun x => inSet r.waiting d && x.state == .jamming).map fun x =>
        QueueItem.report { position := s.here, urgent := false
                           body := .deviceState d (some .jamming) (some .adrift) .jamFailed x.strikes none 0 }
    let result := QueueItem.report
      { position := s.here, urgent := decide (failed ≠ 0),
        body := .jamResult o r.origin cause r.attempts r.ok failed r.blind }
    ∃ q : State, State.endRun o cause s = State.autoCheck o q ∧
      q.runs = s.runs.set o none ∧ q.clock = s.clock ∧
      q.outputs = s.outputs ∧ q.ports = s.ports ∧ q.lines = s.lines ∧ q.inputs = s.inputs ∧ q.marks = s.marks ∧
      q.userBits = s.userBits ∧ q.schedule = s.schedule ∧
      (∀ (d : DeviceId) (x : Device), s.devices[d] = some x →
        (inSet r.waiting d = true → x.state = .jamming → q.devices[d] = some
          { x with state := .adrift, validRun := 0, lastOffset := none, sinceWord := 0, jamWanted := false }) ∧
        (inSet r.waiting d = true → x.state ≠ .jamming → q.devices[d] = some { x with jamWanted := false }) ∧
        (inSet r.waiting d = false → q.devices[d] = some x)) ∧
      (s.bus.ready = true → reportsWaiting s.writer.queue + fails.length + 1 ≤ 64 →
        (∀ n late, r.origin = .order n false late true →
          q.writer.queue = s.writer.queue ++ fails ++ [result, .completion
            { slot := n, code := if late then .doneLate else .done, frame := r.startFrame, fired := 0, missed := 0,
              reply := { w29 := r.ok, w30 := failed, w31 := r.blind }, record := none,
              fence := s.writer.accepted + BitVec.ofNat 32 (fails.length + 1) }]) ∧
        (r.origin = .auto ∨ (∃ n late owed, r.origin = .order n true late owed) ∨
            (∃ n again late, r.origin = .order n again late false) →
          q.writer.queue = s.writer.queue ++ fails ++ [result]))) ∧
  (∀ (o : OutputId) (s : State),
    let x := s.outputs[o]
    let listens := fun (d : DeviceId) => ∃ y : Device, s.devices[d] = some y ∧ y.settings.jamOutput = some o
    let heard := fun (d : DeviceId) => ∃ y : Device, s.devices[d] = some y ∧ y.settings.jamOutput = some o ∧ y.settings.input ≠ none
    let starts := s.clock.state ≠ .stopped ∧ s.runs[o] = none ∧ x.settings.mode ≠ .off ∧
      (∃ (d : DeviceId) (y : Device), s.devices[d] = some y ∧ y.settings.jamOutput = some o ∧ y.jamWanted = true) ∧
      (¬ ∃ (d : DeviceId) (y : Device) (g : GroupId) (k : Take), s.devices[d] = some y ∧
        y.settings.jamOutput = some o ∧ y.settings.policy = .deferInTake ∧ s.groups[g].current = some k ∧
        k.lists d = true) ∧
      x.state ≠ .waking ∧ x.state ≠ .bursting ∧ x.request = none
    (¬ starts → State.autoCheck o s = s) ∧
    (starts → ∃ r : Run, State.autoCheck o s = { s with
        outputs := s.outputs.set o { x with request := some s.clock.frame }, runs := s.runs.set o (some r) } ∧
      r.origin = .auto ∧ r.attempts = 1 ∧ r.phase = .requested ∧ r.startFrame = s.clock.frame ∧ r.ok = 0 ∧
      r.failed = 0 ∧
      (∀ d : DeviceId, (inSet r.listeners d = true ↔ listens d) ∧ (inSet r.waiting d = true ↔ heard d) ∧
        (inSet r.blind d = true ↔ listens d ∧ ¬ heard d))))

/-! ## Marks and takes -/

/-- R118, R119: which roles, targets and edges MARK_SET refuses and what the others mean. R118, R119, R128: MARK_SET and
GROUP_SET. -/
def Obligations.MarkSetAndGroupSet : Prop :=
  (∀ role target edge : Word,
    (readRole role target = none ↔ (5 < role.toNat ∨ (1 ≤ role.toNat ∧ role.toNat ≤ 4 ∧ 7 < target.toNat) ∨
      (role = 5 ∧ 15 < target.toNat))) ∧
    readRole 0 target = some .disabled ∧
    (∀ g : GroupId, g.val = target.toNat → readRole 1 target = some (.takeStart g) ∧
      readRole 2 target = some (.takeEnd g) ∧ readRole 3 target = some (.clap g) ∧
      readRole 4 target = some (.generic g)) ∧
    (∀ d : DeviceId, d.val = target.toNat → readRole 5 target = some (.tally d)) ∧
    (readEdge edge = none ↔ 2 < edge.toNat) ∧ readEdge 0 = some .rise ∧ readEdge 1 = some .fall ∧
    readEdge 2 = some .both) ∧
  (∀ (w : Nat) (n : SlotId) (t : Timing) (a : MarkSetArgs) (g : TagArgs) (s : State),
    (s.upTo w).bus.ready = true → t.timing = 0 →
    (let v := State.orderTaken n t (.markSet a) (s.upTo w)
     (16 ≤ a.input.toNat ∨ readRole a.role a.target = none ∨ 3 ≤ a.edge.toNat ∨ 256 ≤ a.holdoff.toNat ∨
         256 ≤ a.quiet.toNat →
       exec (.markSet w n t a) s = .next (State.completeSlot n .badArg Reply.zero none v)) ∧
     (∀ (i : MarkId) (role : Role) (e : Edge), i.val = a.input.toNat → readRole a.role a.target = some role →
       readEdge a.edge = some e → a.holdoff.toNat ≤ 255 → a.quiet.toNat ≤ 255 →
       exec (.markSet w n t a) s = .next (State.completeSlot n .done Reply.zero none (v.setMark i
         { role := role, edge := e, windowBase := a.windowBase, windowLimit := a.windowLimit,
           holdoff := a.holdoff.toNat, quiet := a.quiet.toNat, reArm := none, remaining := a.quiet.toNat,
           silent := 0, ignored := v.marks[i].ignored })))) ∧
    (let v := State.orderTaken n t (.groupSet g) (s.upTo w)
     (8 ≤ g.group.toNat →
       exec (.groupSet w n t g) s = .next (State.completeSlot n .badArg Reply.zero none v)) ∧
     (∀ i : GroupId, i.val = g.group.toNat →
       exec (.groupSet w n t g) s = .next (State.completeSlot n .done Reply.zero none
         (v.setGroup i { v.groups[i] with nextTag := g.tag })))))

/-- R187: after `lead` ticks the row drives a MARK pin to a level, and its change of level is taken at the third reference tick that samples it:
a rise to high, a fall to low. R120, R121, R122, R124, R125: the judging of such an edge, and a CLAP or GENERIC mark that is
captured: placed in its group's open take and counted for reporting, or stray. `u` holds the pin's new level. R121: the latch
re-arms at the boundary of its re-arm frame, and nothing else of the input changes. -/
def Obligations.MarkEdgesAreJudged : Prop :=
  (∀ (w : Nat) (i : MarkId) (level : Bool) (lead : Nat) (s : State),
    let z := s.after lead
    let u0 := State.upTo w { z with pins := { z.pins with
      marks := z.pins.marks.set i { z.pins.marks[i] with driven := level } } }
    let pin := u0.pins.marks[i]
    let rise := !pin.level
    let u := { u0 with pins := { u0.pins with
      marks := u0.pins.marks.set i { pin with level := !pin.level, samples := 0 } } }
    let m := u.marks[i]
    let inside := m.windowLimit.toNat < m.windowBase.toNat ∨
      (m.windowBase.toNat ≤ u.clock.frame.toNat ∧ u.clock.frame.toNat ≤ m.windowLimit.toNat)
    let ignored := m.role = .disabled ∨ u.clock.state = .stopped ∨ (m.edge = .fall ∧ rise = true) ∨
      (m.edge = .rise ∧ rise = false) ∨ m.reArm ≠ none
    let fired := { m with reArm := some (u.clock.frame + BitVec.ofNat 32 (m.holdoff + 1)) }
    (pin.samples < 3 → exec (.markEdge w i level lead) s = .next u0) ∧
    (3 ≤ pin.samples → ignored → exec (.markEdge w i level lead) s = .next u) ∧
    (3 ≤ pin.samples → ¬ ignored → ¬ inside →
      exec (.markEdge w i level lead) s = .next (u.setMark i { m with ignored := min 65535 (m.ignored + 1) })) ∧
    (3 ≤ pin.samples → ¬ ignored → inside → exec (.markEdge w i level lead) s = .next ((u.setMark i fired).captured i rise)) ∧
    (3 ≤ pin.samples → ¬ ignored → inside → ∀ (g : GroupId) (kind : Word),
      (m.role = .clap g ∧ kind = 4) ∨ (m.role = .generic g ∧ kind = 5) →
      (u.groups[g].current = none →
        exec (.markEdge w i level lead) s = .next ((u.setMark i fired).handReport
          { position := u.here, urgent := false, body := .markStray i kind g.val })) ∧
      (∀ take, u.groups[g].current = some take →
        let m' : Mark := { source := .input i, kind := kind, position := u.here }
        let placed := u.groups.set g { u.groups[g] with take := some (Take.place m' take) }
        (0 < m.remaining →
          exec (.markEdge w i level lead) s = .next { u with
            groups := placed,
            marks := u.marks.set i { fired with remaining := m.remaining - 1, silent := m.silent + 1 } }) ∧
        (m.remaining = 0 →
          exec (.markEdge w i level lead) s = .next { ({ u with groups := placed }).handReport
            { position := u.here, urgent := false,
              body := .mark (.input i) kind (singleGroup g)
                (if take.marks.length < 8 then singleGroup g else 0) m.silent }
            with marks := u.marks.set i { fired with remaining := m.quiet, silent := 0 } })))) ∧
  (∀ (w : Nat) (i : MarkId) (s : State),
    let u := s.upTo w
    (u.clock.state ≠ .stopped → u.marks[i].reArm = some u.clock.frame →
      exec (.latchReArm w i) s = .next (u.setMark i { u.marks[i] with reArm := none })) ∧
    (u.clock.state = .stopped ∨ u.marks[i].reArm ≠ some u.clock.frame → exec (.latchReArm w i) s = .next u))

/-- R122, R130, R135: a captured TAKE_START opens a take in an IDLE group, with the START mark its first; a captured
TAKE_END places its END mark in the open take and closes it. R123: a TALLY mark is placed in every open take that lists the
device, and is stray where none does. R133: a mark placed in a take is counted, and stored while the list has fewer than 8. -/
def Obligations.MarksOpenAndCloseTakes : Prop :=
  (∀ (i : MarkId) (rise : Bool) (g : GroupId) (s : State),
    (s.marks[i].role = .takeStart g → s.groups[g].current = none →
      ∃ k : Take, s.captured i rise = (s.setGroup g { s.groups[g] with counter := k.number, take := some k }).handReport
          { position := s.here, urgent := false
            body := .takeOpened g k.number k.tag (.mark i) k.participantSet k.flags k.openCount } ∧
        k.number = (s.groups[g].counter + 1) % 65536 ∧ k.tag = s.groups[g].nextTag ∧ k.opener = .mark i ∧
        k.opened = s.here ∧ k.markTotal = 1 ∧
        k.marks = [{ source := .input i, kind := 1, position := s.here }] ∧ k.closed = none) ∧
    (s.marks[i].role = .takeStart g → ∀ k, s.groups[g].current = some k →
      s.captured i rise = s.landMark i g 2) ∧
    (∀ k, s.marks[i].role = .takeEnd g → s.groups[g].current = some k →
      let e := Take.place { source := .input i, kind := 3, position := s.here } k
      s.captured i rise = State.autoCheckAll
        ((s.setGroup g { s.groups[g] with take := some { e with closed := some (s.here, .mark i) } }).handReport
          { position := s.here, urgent := false
            body := .takeClosed g e.number e.tag (.mark i) e.flags e.suspects e.markTotal e.marks.length })) ∧
    (s.marks[i].role = .takeEnd g → s.groups[g].current = none →
      s.captured i rise = s.handReport
        { position := s.here, urgent := false, body := .markStray i 3 g.val }) ∧
    (∀ d : DeviceId, s.marks[i].role = .tally d →
      (∀ (h : GroupId) (k : Take), s.groups[h].current = some k → k.lists d = false) →
      s.captured i rise = s.handReport
        { position := s.here, urgent := false, body := .markStray i (if rise then 6 else 7) d.val }) ∧
    (∀ d : DeviceId, s.marks[i].role = .tally d →
      (∃ (h : GroupId) (k : Take), s.groups[h].current = some k ∧ k.lists d = true) →
      (s.captured i rise).groups = s.groups.map (Group.mapOpen (fun k => k.lists d)
        (Take.place { source := .input i, kind := if rise then 6 else 7, position := s.here })))) ∧
  (∀ (m : Mark) (t : Take),
    (Take.place m t).markTotal = min 65535 (t.markTotal + 1) ∧
      (t.marks.length < 8 → (Take.place m t).marks = t.marks ++ [m] ∧ (Take.place m t).flags = t.flags) ∧
      (8 ≤ t.marks.length → (Take.place m t).marks = t.marks ∧
        (Take.place m t).flags = { t.flags with marksOverflow := true }) ∧
      (t.marks.length ≤ 8 → (Take.place m t).marks.length ≤ 8) ∧
      (Take.place m t).participants = t.participants ∧ (Take.place m t).number = t.number ∧
      (Take.place m t).suspects = t.suspects ∧ (Take.place m t).closed = t.closed)

/-- R126, R130 to R135: TAKE_OPEN, MARK_INJECT and TAKE_CLOSE taken from a slot. A group out of range is refused
BAD_ARG. -/
def Obligations.TakeOrders : Prop :=
  ∀ (w : Nat) (n : SlotId) (t : Timing) (g : GroupId) (tag : BitVec 32) (kind : Word) (s : State),
    (s.upTo w).bus.ready = true → t.timing = 0 →
    (let v := State.orderTaken n t (.takeOpen { group := num g.val, tag := tag }) (s.upTo w)
     let c := Instr.takeOpen w n t { group := num g.val, tag := tag }
     (v.clock.state = .stopped → exec c s = .next (State.completeSlot n .noClock Reply.zero none v)) ∧
     (v.clock.state ≠ .stopped → v.groups[g].current ≠ none →
       exec c s = .next (State.completeSlot n .busy Reply.zero none v)) ∧
     (v.clock.state ≠ .stopped → v.groups[g].current = none →
       ∃ k : Take, exec c s = .next (State.completeSlot n .done
           { w29 := num k.number, w30 := lo16 (BitVec.ofNat 32 k.openCount), w31 := hi16 (BitVec.ofNat 32 k.openCount) }
           none
           ((v.setGroup g { v.groups[g] with counter := k.number, take := some k }).handReport
             { position := v.here, urgent := false
               body := .takeOpened g k.number k.tag (.order n) k.participantSet k.flags k.openCount })) ∧
         k.number = (v.groups[g].counter + 1) % 65536 ∧ k.tag = tag ∧ k.opener = .order n ∧ k.opened = v.here ∧
         k.openCount = (v.clock.startCount + v.clock.frame.toNat) % dayFrames v.clock.rate ∧ k.marks = [] ∧
         k.markTotal = 0 ∧ k.suspects = 0 ∧ k.closed = none ∧
         k.flags = { suspect := false, jammed := false, clockUnlocked := decide (v.clock.state ≠ .locked)
                     rateChanged := false, marksOverflow := false } ∧
         k.participants.length ≤ 16 ∧
         (∀ d : DeviceId, k.lists d = true ↔ ∃ x, v.devices[d] = some x ∧ x.settings.groups.getLsbD g.val = true))) ∧
    (let v := State.orderTaken n t (.markInject (num g.val) kind) (s.upTo w)
     let c := Instr.markInject w n t (num g.val) kind
     (v.clock.state = .stopped → exec c s = .next (State.completeSlot n .noClock Reply.zero none v)) ∧
     (v.clock.state ≠ .stopped → v.groups[g].current = none →
       exec c s = .next (State.completeSlot n .notOpen Reply.zero none v)) ∧
     (∀ k, v.clock.state ≠ .stopped → v.groups[g].current = some k →
       let m : Mark := { source := .inject, kind := kind, position := v.here }
       exec c s = .next (State.completeSlot n .done
         { w29 := num k.number, w30 := num (min 65535 (k.markTotal + 1)), w31 := 0 } none
         ((v.setGroup g { v.groups[g] with take := some (Take.place m k) }).handReport
           { position := v.here, urgent := false
             body := .mark .inject kind (singleGroup g) (if k.marks.length < 8 then singleGroup g else 0) 0 })))) ∧
    (let v := State.orderTaken n t (.takeClose (num g.val)) (s.upTo w)
     let c := Instr.takeClose w n t (num g.val)
     (v.groups[g].current = none → exec c s = .next (State.completeSlot n .notOpen Reply.zero none v)) ∧
     (∀ k, v.groups[g].current = some k →
       exec c s = .next (State.completeSlot n .done { w29 := num k.number, w30 := num k.markTotal, w31 := 0 } none
         (State.autoCheckAll
           ((v.setGroup g { v.groups[g] with take := some { k with closed := some (v.here, .order n) } }).handReport
             { position := v.here, urgent := false
               body := .takeClosed g k.number k.tag (.order n) k.flags k.suspects k.markTotal k.marks.length }))))) ∧
    (∀ k : Word, 8 ≤ k.toNat →
      let refused := fun (c : Instr) (o : Order) =>
        exec c s = .next (State.completeSlot n .badArg Reply.zero none (State.orderTaken n t o (s.upTo w)))
      refused (.takeOpen w n t { group := k, tag := tag }) (.takeOpen { group := k, tag := tag }) ∧
        refused (.markInject w n t k kind) (.markInject k kind) ∧ refused (.takeClose w n t k) (.takeClose k))

/-! ## The Schedule, the scanner, the queries and the Report Writer -/

/-- R154, R157: CANCEL. -/
def Obligations.CancelRemovesTheEntry : Prop :=
  ∀ (w : Nat) (n m : SlotId) (t : Timing) (s : State),
    let target : Word := num m.val
    let v := State.orderTaken n t (.cancel target) (s.upTo w)
    (s.upTo w).bus.ready = true → t.timing = 0 →
    (v.entryOf m = none →
      exec (.cancel w n t target) s = .next (State.completeSlot n .notHeld Reply.zero none v)) ∧
    (∀ e, v.entryOf m = some e → (v.slotWord m 0 = 3 ∧ v.slotWord m 1 = e.kind ∧ v.slotWord m 2 = ~~~ e.kind) →
      let fired := (e.again.map fun r => r.fired).getD 0
      let missed := (e.again.map fun r => r.missed).getD 0
      exec (.cancel w n t target) s = .next (State.completeSlot n .done
        { w29 := num m.val, w30 := num fired, w31 := num missed } none
        (State.handCompletion { v with schedule := v.schedule.filter fun x => x.slot != m }
          { slot := m, code := .cancelled, frame := v.clock.frame, fired := fired, missed := missed
            reply := State.repeatReply e.again, record := none, fence := 0 }))) ∧
    (∀ e, v.entryOf m = some e → ¬ (v.slotWord m 0 = 3 ∧ v.slotWord m 1 = e.kind ∧ v.slotWord m 2 = ~~~ e.kind) →
      exec (.cancel w n t target) s = .next (State.completeSlot n .notHeld Reply.zero none
        (State.loseEntry e .cancel v))) ∧
    (∀ k : Word, 64 ≤ k.toNat → exec (.cancel w n t k) s =
      .next (State.completeSlot n .badArg Reply.zero none (State.orderTaken n t (.cancel k) (s.upTo w))))

/-- R24, R85, R127, R146, R180: the four queries: an answered query's record waits with its completion, and only an
answered one clears the count it shows; QUERY_CLOCK and QUERY_DEVICE find a frame boundary of their instant made in the clock
and, once it has counted, in the roster; one whose area is out of range is refused BAD_ARG before all else. R185: how long the
reply records are. -/
def Obligations.QueriesAreAnswered : Prop :=
  (∀ (w : Nat) (n : SlotId) (t : Timing) (address capacity : Word) (s : State),
    let area := 1 ≤ capacity.toNat ∧ capacity.toNat ≤ 14080 ∧ 0x4900 ≤ address.toNat ∧
      address.toNat + capacity.toNat ≤ 0x8000
    let answered := fun (c : Instr) (o : Order) (words : State → List Word) (effect : State → State) =>
      let v := State.orderTaken n t o (s.upTo w)
      exec c s = .next (State.completeSlot n .done
        { w29 := num (words v).length, w30 := num (min (words v).length capacity.toNat), w31 := 0 }
        (some { address := address.toNat, capacity := capacity.toNat, words := words v }) (effect v))
    let refused := fun (c : Instr) (o : Order) (code : ResultCode) =>
      exec c s = .next (State.completeSlot n code Reply.zero none (State.orderTaken n t o (s.upTo w)))
    let args := fun (k : Nat) => ({ address := address, capacity := capacity, subject := num k } : QueryArgs)
    (s.upTo w).bus.ready = true → t.timing = 0 →
    (¬ area → refused (.queryClock w n t address capacity) (.queryClock address capacity) .badArg ∧
      ∀ k, refused (.queryDevice w n t (args k)) (.queryDevice (args k)) .badArg ∧
        refused (.queryTake w n t (args k)) (.queryTake (args k)) .badArg ∧
        refused (.queryMark w n t (args k)) (.queryMark (args k)) .badArg) ∧
    (area →
      answered (.queryClock w n t address capacity) (.queryClock address capacity)
        (fun v => clockRecord v.closeClock.clock v.closeClock.here) (fun v => v.closeClock) ∧
      (∀ g : GroupId, answered (.queryTake w n t (args g.val)) (.queryTake (args g.val))
        (fun v => takeRecord v.groups[g]) (fun v => v)) ∧
      (∀ i : MarkId, answered (.queryMark w n t (args i.val)) (.queryMark (args i.val))
        (fun v => markRecord i v.marks[i]) (fun v => v.setMark i { v.marks[i] with ignored := 0 })) ∧
      (∀ d : DeviceId,
        ((s.upTo w).devices[d] = none →
          refused (.queryDevice w n t (args d.val)) (.queryDevice (args d.val)) .noDevice) ∧
        (∀ x, (State.orderTaken n t (.queryDevice (args d.val)) (s.upTo w)).rosterFirst.devices[d] = some x →
          (x.settings.input = none → answered (.queryDevice w n t (args d.val)) (.queryDevice (args d.val))
            (fun _ => deviceRecord d x none) (fun v => v.rosterFirst)) ∧
          (∀ i, x.settings.input = some i → answered (.queryDevice w n t (args d.val)) (.queryDevice (args d.val))
            (fun v => deviceRecord d x (some v.inputs[i]))
            (fun v => v.rosterFirst.setInput i { v.inputs[i] with badWords := 0 })))) ∧
      (∀ k : Word, 16 ≤ k.toNat →
        let a : QueryArgs := { address := address, capacity := capacity, subject := k }
        refused (.queryDevice w n t a) (.queryDevice a) .badArg ∧ refused (.queryMark w n t a) (.queryMark a) .badArg) ∧
      (∀ k : Word, 8 ≤ k.toNat →
        let a : QueryArgs := { address := address, capacity := capacity, subject := k }
        refused (.queryTake w n t a) (.queryTake a) .badArg))) ∧
  (∀ (c : Clock) (p : Position), (clockRecord c p).length = 28 + c.history.length) ∧
  (∀ (d : DeviceId) (x : Device) (i : Option Input), (deviceRecord d x i).length = 41) ∧
  (∀ (i : MarkId) (m : MarkInput), (markRecord i m).length = 16) ∧
  (∀ (g : Group), (g.take = none → (takeRecord g).length = 16) ∧
    ∀ t, g.take = some t → (takeRecord g).length = 16 + 4 * t.participants.length + 5 * t.marks.length)

/-- R171, R172: one look of a running scan: a slot that is not FILED is passed over, a FILED one is taken, its order judged,
refused MALFORMED or UNKNOWN_KIND; the scan goes on to the next slot, and after slot 63 ends or begins again. -/
def Obligations.ScansLookAtSlotsInOrder : Prop :=
  ∀ (w : Nat) (n : SlotId) (s : State),
    let u := s.upTo w
    let v := State.beginTake n u
    let moved := fun (q : State) => { q with scanner :=
      if h : n.val + 1 < 64 then { q.scanner with point := some ⟨n.val + 1, h⟩ }
      else if q.scanner.requested = true then { q.scanner with point := some 0, requested := false }
      else { q.scanner with point := none } }
    (u.scanner.point = none → exec (.scan w 1) s = .next u) ∧
    (u.scanner.point = some n →
      (u.slotWord n 0 ≠ 1 → exec (.scan w 1) s = .next (moved u)) ∧
      (u.slotWord n 0 = 1 → v.slotWord n 2 ≠ ~~~ v.slotWord n 1 →
        exec (.scan w 1) s = .next (moved (State.completeSlot n .malformed Reply.zero none v))) ∧
      (u.slotWord n 0 = 1 → v.slotWord n 2 = ~~~ v.slotWord n 1 →
        readOrder (v.slotWord n 1) (v.slotWord n) = none →
        exec (.scan w 1) s = .next (moved (State.completeSlot n .unknownKind Reply.zero none v))) ∧
      (∀ o, u.slotWord n 0 = 1 → v.slotWord n 2 = ~~~ v.slotWord n 1 →
        readOrder (v.slotWord n 1) (v.slotWord n) = some o →
        exec (.scan w 1) s = .next (moved (State.judgeOrder n (v.slotTiming n) o v)))) ∧
    (∀ k, exec (.scan w (k + 1)) s = .next (State.scanLooks k (State.scanLook u)))

/-- R153 to R156: an entry whose due frame has come fires from its slot as it stands: an AT_FRAME entry leaves the Schedule
and its order is carried out, a REPEAT is counted and moves to its next due frame, and one whose slot the host has
disturbed is lost. -/
def Obligations.FiringsCarryOutHeldOrders : Prop :=
  ∀ (w : Nat) (n : SlotId) (s : State) (e : Entry) (o : Order),
    let u := s.upTo w
    let left := { u with schedule := u.schedule.filter fun x => x.slot != n }
    u.clock.state ≠ .stopped → u.entryOf n = some e → e.due = u.clock.frame →
    (∀ x ∈ u.schedule, x.due = u.clock.frame → ¬ x.slot < n) →
    (¬ (u.slotWord n 0 = 3 ∧ u.slotWord n 1 = e.kind ∧ u.slotWord n 2 = ~~~ e.kind) →
      exec (.scheduleFiring w n) s = .next (left.handReport
      { position := u.here, urgent := true
        body := .slotLost n .firing e.kind (u.slotWord n 0) (u.slotWord n 1) (u.slotWord n 2) e.due
          ((e.again.map fun r => r.fired).getD 0) ((e.again.map fun r => r.missed).getD 0) })) ∧
    (u.slotWord n 0 = 3 → u.slotWord n 1 = e.kind → u.slotWord n 2 = ~~~ e.kind →
      readOrder e.kind (u.slotWord n) = some o →
      (e.again = none → exec (.scheduleFiring w n) s = .next (State.carryOut
        { slot := n, fired := true, again := false, late := false } o (left.putWord (0x0100 + 32 * n.val) 2))) ∧
      (∀ r, e.again = some r →
        ∃ (q : State) (res : Result) (r' : Repeating),
          u.dispatch { slot := n, fired := true, again := true, late := r.late } o = (q, res) ∧
          r'.interval = r.interval ∧ r'.late = r.late ∧ r'.left = r.left.map (fun k => k - 1) ∧
          r'.firstFiring = some (r.firstFiring.getD u.clock.frame) ∧
          r'.lastResult = some (State.Result.code res) ∧
          (State.Result.code res = .done → r'.fired = min 65535 (r.fired + 1) ∧ r'.missed = r.missed) ∧
          (State.Result.code res ≠ .done → r'.fired = r.fired ∧ r'.missed = min 65535 (r.missed + 1)) ∧
          (r'.left ≠ some 0 → exec (.scheduleFiring w n) s = .next (State.addEntry
            { e with due := e.due + BitVec.ofNat 32 r.interval, again := some r' }
            { q with schedule := q.schedule.filter fun x => x.slot != n })) ∧
          (r'.left = some 0 → exec (.scheduleFiring w n) s = .next (State.handCompletion
            { q with schedule := q.schedule.filter fun x => x.slot != n }
            { slot := n, code := if r.late then .doneLate else .done, frame := q.clock.frame, fired := r'.fired,
              missed := r'.missed, reply := State.repeatReply (some r'), record := none, fence := 0 }))))

/-- R175, R176: the report at the head of the output queue is written into the log when there is room, after the LOG_GAP
that is owed, and dropped otherwise. -/
def Obligations.ReportsAreWrittenOrDropped : Prop :=
  ∀ (w : Nat) (s : State) (r : Report) (rest : List QueueItem),
    let u := s.upTo w
    let unread := (u.writer.written - u.word 0x0010).toNat
    u.bus.ready = true → u.writer.queue = .report r :: rest →
    (u.writer.gap = 0 → unread < 1024 → exec (.reportWrite w) s = .next
      { u with
        store := (u.store.putWords (0x0900 + 16 * (u.writer.written.toNat % 1024))
          (reportWords u.writer.sequence r)).putWord 0x0003 (u.writer.written + 1),
        writer := { u.writer with queue := rest, sequence := u.writer.sequence + 1, written := u.writer.written + 1,
                                  urgent := u.writer.urgent || r.urgent } }) ∧
    (1024 ≤ unread → exec (.reportWrite w) s = .next
      { u with
        store := u.store.putWord 0x0004 (num (min 65535 (u.writer.dropped + 1))),
        writer := { u.writer with queue := rest, dropped := min 65535 (u.writer.dropped + 1),
                                  gap := min 65535 (u.writer.gap + 1) } }) ∧
    (u.storeSound → 0 < u.writer.gap → unread < 1023 → ∃ q, exec (.reportWrite w) s = .next q ∧
      q.writer = { u.writer with queue := rest, sequence := u.writer.sequence + 2, written := u.writer.written + 2,
                                 urgent := true, gap := 0 } ∧
      q.word 0x0003 = u.writer.written + 2 ∧
      (∀ k, k < 16 → q.word (0x0900 + 16 * (u.writer.written.toNat % 1024) + k) =
        (reportWords u.writer.sequence
          { position := u.here, urgent := true, body := .logGap u.writer.gap u.writer.dropped })[k]!) ∧
      (∀ k, k < 16 → q.word (0x0900 + 16 * ((u.writer.written + 1).toNat % 1024) + k) =
        (reportWords (u.writer.sequence + 1) r)[k]!)) ∧
    (u.storeSound → 0 < u.writer.gap → unread = 1023 → ∃ q, exec (.reportWrite w) s = .next q ∧
      q.writer = { u.writer with queue := rest, sequence := u.writer.sequence + 1, written := u.writer.written + 1,
                                 urgent := true, gap := 1, dropped := min 65535 (u.writer.dropped + 1) } ∧
      q.word 0x0003 = u.writer.written + 1 ∧ q.word 0x0004 = num (min 65535 (u.writer.dropped + 1)))

/-- R177, R180, R182, R183: the completion at the head of the output queue is written into its slot: its result words and
its DONE or REFUSED state, a query's record before it in the host area, and words 1 to 23 as the host filed them. -/
def Obligations.CompletionsAreWritten : Prop :=
  ∀ (w : Nat) (s : State) (c : Completion) (rest : List QueueItem),
    let u := s.upTo w
    u.storeSound → u.bus.ready = true → u.writer.queue = .completion c :: rest →
    (∀ x, c.record = some x → 0x4900 ≤ x.address ∧ x.address + x.capacity ≤ 0x8000) →
    ∃ q, exec (.completionWrite w) s = .next q ∧
      q = { u with store := q.store, writer := { u.writer with queue := rest } } ∧
      q.slotWord c.slot 24 = c.code.code ∧ q.slotWord c.slot 25 = lo16 c.frame ∧ q.slotWord c.slot 26 = hi16 c.frame ∧
      q.slotWord c.slot 27 = num c.fired ∧ q.slotWord c.slot 28 = num c.missed ∧ q.slotWord c.slot 29 = c.reply.w29 ∧
      q.slotWord c.slot 30 = c.reply.w30 ∧ q.slotWord c.slot 31 = c.reply.w31 ∧
      q.slotWord c.slot 0 = (if c.code = .done ∨ c.code = .doneLate then 4 else 5) ∧
      (∀ k, 1 ≤ k → k ≤ 23 → q.slotWord c.slot k = u.slotWord c.slot k) ∧
      (∀ x k, c.record = some x → k < min x.words.length x.capacity → q.word (x.address + k) = x.words[k]!) ∧
      (∀ a, a < 0x0100 + 32 * c.slot.val ∨ 0x0100 + 32 * c.slot.val + 32 ≤ a →
        (∀ x, c.record = some x → a < x.address ∨ x.address + min x.words.length x.capacity ≤ a) →
        q.word a = u.word a)
end

