-- ==== Sys2Proof/Laws/State.lean ====
section
/-! SUPPORT. What each field reads after each of the named updates of the state, true by unfolding. -/

namespace Sys2Proof.Machine.State

variable (s : State)

/-! ### setClock -/

@[simp] theorem setClock_clock (c : Clock) : (s.setClock c).clock = c := rfl
@[simp] theorem setClock_ports (c : Clock) : (s.setClock c).ports = s.ports := rfl
@[simp] theorem setClock_lines (c : Clock) : (s.setClock c).lines = s.lines := rfl
@[simp] theorem setClock_outputs (c : Clock) : (s.setClock c).outputs = s.outputs := rfl
@[simp] theorem setClock_userBits (c : Clock) : (s.setClock c).userBits = s.userBits := rfl
@[simp] theorem setClock_inputs (c : Clock) : (s.setClock c).inputs = s.inputs := rfl
@[simp] theorem setClock_devices (c : Clock) : (s.setClock c).devices = s.devices := rfl
@[simp] theorem setClock_runs (c : Clock) : (s.setClock c).runs = s.runs := rfl
@[simp] theorem setClock_marks (c : Clock) : (s.setClock c).marks = s.marks := rfl
@[simp] theorem setClock_groups (c : Clock) : (s.setClock c).groups = s.groups := rfl
@[simp] theorem setClock_schedule (c : Clock) : (s.setClock c).schedule = s.schedule := rfl
@[simp] theorem setClock_scanner (c : Clock) : (s.setClock c).scanner = s.scanner := rfl
@[simp] theorem setClock_writer (c : Clock) : (s.setClock c).writer = s.writer := rfl
@[simp] theorem setClock_store (c : Clock) : (s.setClock c).store = s.store := rfl
@[simp] theorem setClock_bus (c : Clock) : (s.setClock c).bus = s.bus := rfl
@[simp] theorem setClock_pins (c : Clock) : (s.setClock c).pins = s.pins := rfl
@[simp] theorem setClock_hold (c : Clock) : (s.setClock c).hold = s.hold := rfl
@[simp] theorem setClock_owed (c : Clock) : (s.setClock c).owed = s.owed := rfl
@[simp] theorem setClock_uses (c : Clock) : (s.setClock c).uses = s.uses := rfl
@[simp] theorem setClock_pending (c : Clock) : (s.setClock c).pending = s.pending := rfl

/-! ### setPort -/

@[simp] theorem setPort_clock (i : PortId) (p : Port) : (s.setPort i p).clock = s.clock := rfl
@[simp] theorem setPort_ports (i : PortId) (p : Port) : (s.setPort i p).ports = s.ports.set i p := rfl
@[simp] theorem setPort_lines (i : PortId) (p : Port) : (s.setPort i p).lines = s.lines := rfl
@[simp] theorem setPort_outputs (i : PortId) (p : Port) : (s.setPort i p).outputs = s.outputs := rfl
@[simp] theorem setPort_userBits (i : PortId) (p : Port) : (s.setPort i p).userBits = s.userBits := rfl
@[simp] theorem setPort_inputs (i : PortId) (p : Port) : (s.setPort i p).inputs = s.inputs := rfl
@[simp] theorem setPort_devices (i : PortId) (p : Port) : (s.setPort i p).devices = s.devices := rfl
@[simp] theorem setPort_runs (i : PortId) (p : Port) : (s.setPort i p).runs = s.runs := rfl
@[simp] theorem setPort_marks (i : PortId) (p : Port) : (s.setPort i p).marks = s.marks := rfl
@[simp] theorem setPort_groups (i : PortId) (p : Port) : (s.setPort i p).groups = s.groups := rfl
@[simp] theorem setPort_schedule (i : PortId) (p : Port) : (s.setPort i p).schedule = s.schedule := rfl
@[simp] theorem setPort_scanner (i : PortId) (p : Port) : (s.setPort i p).scanner = s.scanner := rfl
@[simp] theorem setPort_writer (i : PortId) (p : Port) : (s.setPort i p).writer = s.writer := rfl
@[simp] theorem setPort_store (i : PortId) (p : Port) : (s.setPort i p).store = s.store := rfl
@[simp] theorem setPort_bus (i : PortId) (p : Port) : (s.setPort i p).bus = s.bus := rfl
@[simp] theorem setPort_pins (i : PortId) (p : Port) : (s.setPort i p).pins = s.pins := rfl
@[simp] theorem setPort_hold (i : PortId) (p : Port) : (s.setPort i p).hold = s.hold := rfl
@[simp] theorem setPort_owed (i : PortId) (p : Port) : (s.setPort i p).owed = s.owed := rfl
@[simp] theorem setPort_uses (i : PortId) (p : Port) : (s.setPort i p).uses = s.uses := rfl
@[simp] theorem setPort_pending (i : PortId) (p : Port) : (s.setPort i p).pending = s.pending := rfl

/-! ### setLine -/

@[simp] theorem setLine_clock (i : LineId) (l : Line) : (s.setLine i l).clock = s.clock := rfl
@[simp] theorem setLine_ports (i : LineId) (l : Line) : (s.setLine i l).ports = s.ports := rfl
@[simp] theorem setLine_lines (i : LineId) (l : Line) : (s.setLine i l).lines = s.lines.set i l := rfl
@[simp] theorem setLine_outputs (i : LineId) (l : Line) : (s.setLine i l).outputs = s.outputs := rfl
@[simp] theorem setLine_userBits (i : LineId) (l : Line) : (s.setLine i l).userBits = s.userBits := rfl
@[simp] theorem setLine_inputs (i : LineId) (l : Line) : (s.setLine i l).inputs = s.inputs := rfl
@[simp] theorem setLine_devices (i : LineId) (l : Line) : (s.setLine i l).devices = s.devices := rfl
@[simp] theorem setLine_runs (i : LineId) (l : Line) : (s.setLine i l).runs = s.runs := rfl
@[simp] theorem setLine_marks (i : LineId) (l : Line) : (s.setLine i l).marks = s.marks := rfl
@[simp] theorem setLine_groups (i : LineId) (l : Line) : (s.setLine i l).groups = s.groups := rfl
@[simp] theorem setLine_schedule (i : LineId) (l : Line) : (s.setLine i l).schedule = s.schedule := rfl
@[simp] theorem setLine_scanner (i : LineId) (l : Line) : (s.setLine i l).scanner = s.scanner := rfl
@[simp] theorem setLine_writer (i : LineId) (l : Line) : (s.setLine i l).writer = s.writer := rfl
@[simp] theorem setLine_store (i : LineId) (l : Line) : (s.setLine i l).store = s.store := rfl
@[simp] theorem setLine_bus (i : LineId) (l : Line) : (s.setLine i l).bus = s.bus := rfl
@[simp] theorem setLine_pins (i : LineId) (l : Line) : (s.setLine i l).pins = s.pins := rfl
@[simp] theorem setLine_hold (i : LineId) (l : Line) : (s.setLine i l).hold = s.hold := rfl
@[simp] theorem setLine_owed (i : LineId) (l : Line) : (s.setLine i l).owed = s.owed := rfl
@[simp] theorem setLine_uses (i : LineId) (l : Line) : (s.setLine i l).uses = s.uses := rfl
@[simp] theorem setLine_pending (i : LineId) (l : Line) : (s.setLine i l).pending = s.pending := rfl

/-! ### setOutput -/

@[simp] theorem setOutput_clock (o : OutputId) (x : Output) : (s.setOutput o x).clock = s.clock := rfl
@[simp] theorem setOutput_ports (o : OutputId) (x : Output) : (s.setOutput o x).ports = s.ports := rfl
@[simp] theorem setOutput_lines (o : OutputId) (x : Output) : (s.setOutput o x).lines = s.lines := rfl
@[simp] theorem setOutput_outputs (o : OutputId) (x : Output) : (s.setOutput o x).outputs = s.outputs.set o x := rfl
@[simp] theorem setOutput_userBits (o : OutputId) (x : Output) : (s.setOutput o x).userBits = s.userBits := rfl
@[simp] theorem setOutput_inputs (o : OutputId) (x : Output) : (s.setOutput o x).inputs = s.inputs := rfl
@[simp] theorem setOutput_devices (o : OutputId) (x : Output) : (s.setOutput o x).devices = s.devices := rfl
@[simp] theorem setOutput_runs (o : OutputId) (x : Output) : (s.setOutput o x).runs = s.runs := rfl
@[simp] theorem setOutput_marks (o : OutputId) (x : Output) : (s.setOutput o x).marks = s.marks := rfl
@[simp] theorem setOutput_groups (o : OutputId) (x : Output) : (s.setOutput o x).groups = s.groups := rfl
@[simp] theorem setOutput_schedule (o : OutputId) (x : Output) : (s.setOutput o x).schedule = s.schedule := rfl
@[simp] theorem setOutput_scanner (o : OutputId) (x : Output) : (s.setOutput o x).scanner = s.scanner := rfl
@[simp] theorem setOutput_writer (o : OutputId) (x : Output) : (s.setOutput o x).writer = s.writer := rfl
@[simp] theorem setOutput_store (o : OutputId) (x : Output) : (s.setOutput o x).store = s.store := rfl
@[simp] theorem setOutput_bus (o : OutputId) (x : Output) : (s.setOutput o x).bus = s.bus := rfl
@[simp] theorem setOutput_pins (o : OutputId) (x : Output) : (s.setOutput o x).pins = s.pins := rfl
@[simp] theorem setOutput_hold (o : OutputId) (x : Output) : (s.setOutput o x).hold = s.hold := rfl
@[simp] theorem setOutput_owed (o : OutputId) (x : Output) : (s.setOutput o x).owed = s.owed := rfl
@[simp] theorem setOutput_uses (o : OutputId) (x : Output) : (s.setOutput o x).uses = s.uses := rfl
@[simp] theorem setOutput_pending (o : OutputId) (x : Output) : (s.setOutput o x).pending = s.pending := rfl

/-! ### setInput -/

@[simp] theorem setInput_clock (i : InputId) (x : Input) : (s.setInput i x).clock = s.clock := rfl
@[simp] theorem setInput_ports (i : InputId) (x : Input) : (s.setInput i x).ports = s.ports := rfl
@[simp] theorem setInput_lines (i : InputId) (x : Input) : (s.setInput i x).lines = s.lines := rfl
@[simp] theorem setInput_outputs (i : InputId) (x : Input) : (s.setInput i x).outputs = s.outputs := rfl
@[simp] theorem setInput_userBits (i : InputId) (x : Input) : (s.setInput i x).userBits = s.userBits := rfl
@[simp] theorem setInput_inputs (i : InputId) (x : Input) : (s.setInput i x).inputs = s.inputs.set i x := rfl
@[simp] theorem setInput_devices (i : InputId) (x : Input) : (s.setInput i x).devices = s.devices := rfl
@[simp] theorem setInput_runs (i : InputId) (x : Input) : (s.setInput i x).runs = s.runs := rfl
@[simp] theorem setInput_marks (i : InputId) (x : Input) : (s.setInput i x).marks = s.marks := rfl
@[simp] theorem setInput_groups (i : InputId) (x : Input) : (s.setInput i x).groups = s.groups := rfl
@[simp] theorem setInput_schedule (i : InputId) (x : Input) : (s.setInput i x).schedule = s.schedule := rfl
@[simp] theorem setInput_scanner (i : InputId) (x : Input) : (s.setInput i x).scanner = s.scanner := rfl
@[simp] theorem setInput_writer (i : InputId) (x : Input) : (s.setInput i x).writer = s.writer := rfl
@[simp] theorem setInput_store (i : InputId) (x : Input) : (s.setInput i x).store = s.store := rfl
@[simp] theorem setInput_bus (i : InputId) (x : Input) : (s.setInput i x).bus = s.bus := rfl
@[simp] theorem setInput_pins (i : InputId) (x : Input) : (s.setInput i x).pins = s.pins := rfl
@[simp] theorem setInput_hold (i : InputId) (x : Input) : (s.setInput i x).hold = s.hold := rfl
@[simp] theorem setInput_owed (i : InputId) (x : Input) : (s.setInput i x).owed = s.owed := rfl
@[simp] theorem setInput_uses (i : InputId) (x : Input) : (s.setInput i x).uses = s.uses := rfl
@[simp] theorem setInput_pending (i : InputId) (x : Input) : (s.setInput i x).pending = s.pending := rfl

/-! ### setDevice -/

@[simp] theorem setDevice_clock (d : DeviceId) (x : Option Device) : (s.setDevice d x).clock = s.clock := rfl
@[simp] theorem setDevice_ports (d : DeviceId) (x : Option Device) : (s.setDevice d x).ports = s.ports := rfl
@[simp] theorem setDevice_lines (d : DeviceId) (x : Option Device) : (s.setDevice d x).lines = s.lines := rfl
@[simp] theorem setDevice_outputs (d : DeviceId) (x : Option Device) : (s.setDevice d x).outputs = s.outputs := rfl
@[simp] theorem setDevice_userBits (d : DeviceId) (x : Option Device) : (s.setDevice d x).userBits = s.userBits := rfl
@[simp] theorem setDevice_inputs (d : DeviceId) (x : Option Device) : (s.setDevice d x).inputs = s.inputs := rfl
@[simp] theorem setDevice_devices (d : DeviceId) (x : Option Device) : (s.setDevice d x).devices = s.devices.set d x := rfl
@[simp] theorem setDevice_runs (d : DeviceId) (x : Option Device) : (s.setDevice d x).runs = s.runs := rfl
@[simp] theorem setDevice_marks (d : DeviceId) (x : Option Device) : (s.setDevice d x).marks = s.marks := rfl
@[simp] theorem setDevice_groups (d : DeviceId) (x : Option Device) : (s.setDevice d x).groups = s.groups := rfl
@[simp] theorem setDevice_schedule (d : DeviceId) (x : Option Device) : (s.setDevice d x).schedule = s.schedule := rfl
@[simp] theorem setDevice_scanner (d : DeviceId) (x : Option Device) : (s.setDevice d x).scanner = s.scanner := rfl
@[simp] theorem setDevice_writer (d : DeviceId) (x : Option Device) : (s.setDevice d x).writer = s.writer := rfl
@[simp] theorem setDevice_store (d : DeviceId) (x : Option Device) : (s.setDevice d x).store = s.store := rfl
@[simp] theorem setDevice_bus (d : DeviceId) (x : Option Device) : (s.setDevice d x).bus = s.bus := rfl
@[simp] theorem setDevice_pins (d : DeviceId) (x : Option Device) : (s.setDevice d x).pins = s.pins := rfl
@[simp] theorem setDevice_hold (d : DeviceId) (x : Option Device) : (s.setDevice d x).hold = s.hold := rfl
@[simp] theorem setDevice_owed (d : DeviceId) (x : Option Device) : (s.setDevice d x).owed = s.owed := rfl
@[simp] theorem setDevice_uses (d : DeviceId) (x : Option Device) : (s.setDevice d x).uses = s.uses := rfl
@[simp] theorem setDevice_pending (d : DeviceId) (x : Option Device) : (s.setDevice d x).pending = s.pending := rfl

/-! ### setRun -/

@[simp] theorem setRun_clock (o : OutputId) (r : Option Run) : (s.setRun o r).clock = s.clock := rfl
@[simp] theorem setRun_ports (o : OutputId) (r : Option Run) : (s.setRun o r).ports = s.ports := rfl
@[simp] theorem setRun_lines (o : OutputId) (r : Option Run) : (s.setRun o r).lines = s.lines := rfl
@[simp] theorem setRun_outputs (o : OutputId) (r : Option Run) : (s.setRun o r).outputs = s.outputs := rfl
@[simp] theorem setRun_userBits (o : OutputId) (r : Option Run) : (s.setRun o r).userBits = s.userBits := rfl
@[simp] theorem setRun_inputs (o : OutputId) (r : Option Run) : (s.setRun o r).inputs = s.inputs := rfl
@[simp] theorem setRun_devices (o : OutputId) (r : Option Run) : (s.setRun o r).devices = s.devices := rfl
@[simp] theorem setRun_runs (o : OutputId) (r : Option Run) : (s.setRun o r).runs = s.runs.set o r := rfl
@[simp] theorem setRun_marks (o : OutputId) (r : Option Run) : (s.setRun o r).marks = s.marks := rfl
@[simp] theorem setRun_groups (o : OutputId) (r : Option Run) : (s.setRun o r).groups = s.groups := rfl
@[simp] theorem setRun_schedule (o : OutputId) (r : Option Run) : (s.setRun o r).schedule = s.schedule := rfl
@[simp] theorem setRun_scanner (o : OutputId) (r : Option Run) : (s.setRun o r).scanner = s.scanner := rfl
@[simp] theorem setRun_writer (o : OutputId) (r : Option Run) : (s.setRun o r).writer = s.writer := rfl
@[simp] theorem setRun_store (o : OutputId) (r : Option Run) : (s.setRun o r).store = s.store := rfl
@[simp] theorem setRun_bus (o : OutputId) (r : Option Run) : (s.setRun o r).bus = s.bus := rfl
@[simp] theorem setRun_pins (o : OutputId) (r : Option Run) : (s.setRun o r).pins = s.pins := rfl
@[simp] theorem setRun_hold (o : OutputId) (r : Option Run) : (s.setRun o r).hold = s.hold := rfl
@[simp] theorem setRun_owed (o : OutputId) (r : Option Run) : (s.setRun o r).owed = s.owed := rfl
@[simp] theorem setRun_uses (o : OutputId) (r : Option Run) : (s.setRun o r).uses = s.uses := rfl
@[simp] theorem setRun_pending (o : OutputId) (r : Option Run) : (s.setRun o r).pending = s.pending := rfl

/-! ### setMark -/

@[simp] theorem setMark_clock (i : MarkId) (m : MarkInput) : (s.setMark i m).clock = s.clock := rfl
@[simp] theorem setMark_ports (i : MarkId) (m : MarkInput) : (s.setMark i m).ports = s.ports := rfl
@[simp] theorem setMark_lines (i : MarkId) (m : MarkInput) : (s.setMark i m).lines = s.lines := rfl
@[simp] theorem setMark_outputs (i : MarkId) (m : MarkInput) : (s.setMark i m).outputs = s.outputs := rfl
@[simp] theorem setMark_userBits (i : MarkId) (m : MarkInput) : (s.setMark i m).userBits = s.userBits := rfl
@[simp] theorem setMark_inputs (i : MarkId) (m : MarkInput) : (s.setMark i m).inputs = s.inputs := rfl
@[simp] theorem setMark_devices (i : MarkId) (m : MarkInput) : (s.setMark i m).devices = s.devices := rfl
@[simp] theorem setMark_runs (i : MarkId) (m : MarkInput) : (s.setMark i m).runs = s.runs := rfl
@[simp] theorem setMark_marks (i : MarkId) (m : MarkInput) : (s.setMark i m).marks = s.marks.set i m := rfl
@[simp] theorem setMark_groups (i : MarkId) (m : MarkInput) : (s.setMark i m).groups = s.groups := rfl
@[simp] theorem setMark_schedule (i : MarkId) (m : MarkInput) : (s.setMark i m).schedule = s.schedule := rfl
@[simp] theorem setMark_scanner (i : MarkId) (m : MarkInput) : (s.setMark i m).scanner = s.scanner := rfl
@[simp] theorem setMark_writer (i : MarkId) (m : MarkInput) : (s.setMark i m).writer = s.writer := rfl
@[simp] theorem setMark_store (i : MarkId) (m : MarkInput) : (s.setMark i m).store = s.store := rfl
@[simp] theorem setMark_bus (i : MarkId) (m : MarkInput) : (s.setMark i m).bus = s.bus := rfl
@[simp] theorem setMark_pins (i : MarkId) (m : MarkInput) : (s.setMark i m).pins = s.pins := rfl
@[simp] theorem setMark_hold (i : MarkId) (m : MarkInput) : (s.setMark i m).hold = s.hold := rfl
@[simp] theorem setMark_owed (i : MarkId) (m : MarkInput) : (s.setMark i m).owed = s.owed := rfl
@[simp] theorem setMark_uses (i : MarkId) (m : MarkInput) : (s.setMark i m).uses = s.uses := rfl
@[simp] theorem setMark_pending (i : MarkId) (m : MarkInput) : (s.setMark i m).pending = s.pending := rfl

/-! ### setGroup -/

@[simp] theorem setGroup_clock (g : GroupId) (x : Group) : (s.setGroup g x).clock = s.clock := rfl
@[simp] theorem setGroup_ports (g : GroupId) (x : Group) : (s.setGroup g x).ports = s.ports := rfl
@[simp] theorem setGroup_lines (g : GroupId) (x : Group) : (s.setGroup g x).lines = s.lines := rfl
@[simp] theorem setGroup_outputs (g : GroupId) (x : Group) : (s.setGroup g x).outputs = s.outputs := rfl
@[simp] theorem setGroup_userBits (g : GroupId) (x : Group) : (s.setGroup g x).userBits = s.userBits := rfl
@[simp] theorem setGroup_inputs (g : GroupId) (x : Group) : (s.setGroup g x).inputs = s.inputs := rfl
@[simp] theorem setGroup_devices (g : GroupId) (x : Group) : (s.setGroup g x).devices = s.devices := rfl
@[simp] theorem setGroup_runs (g : GroupId) (x : Group) : (s.setGroup g x).runs = s.runs := rfl
@[simp] theorem setGroup_marks (g : GroupId) (x : Group) : (s.setGroup g x).marks = s.marks := rfl
@[simp] theorem setGroup_groups (g : GroupId) (x : Group) : (s.setGroup g x).groups = s.groups.set g x := rfl
@[simp] theorem setGroup_schedule (g : GroupId) (x : Group) : (s.setGroup g x).schedule = s.schedule := rfl
@[simp] theorem setGroup_scanner (g : GroupId) (x : Group) : (s.setGroup g x).scanner = s.scanner := rfl
@[simp] theorem setGroup_writer (g : GroupId) (x : Group) : (s.setGroup g x).writer = s.writer := rfl
@[simp] theorem setGroup_store (g : GroupId) (x : Group) : (s.setGroup g x).store = s.store := rfl
@[simp] theorem setGroup_bus (g : GroupId) (x : Group) : (s.setGroup g x).bus = s.bus := rfl
@[simp] theorem setGroup_pins (g : GroupId) (x : Group) : (s.setGroup g x).pins = s.pins := rfl
@[simp] theorem setGroup_hold (g : GroupId) (x : Group) : (s.setGroup g x).hold = s.hold := rfl
@[simp] theorem setGroup_owed (g : GroupId) (x : Group) : (s.setGroup g x).owed = s.owed := rfl
@[simp] theorem setGroup_uses (g : GroupId) (x : Group) : (s.setGroup g x).uses = s.uses := rfl
@[simp] theorem setGroup_pending (g : GroupId) (x : Group) : (s.setGroup g x).pending = s.pending := rfl

/-! ### setSchedule -/

@[simp] theorem setSchedule_clock (es : List Entry) : (s.setSchedule es).clock = s.clock := rfl
@[simp] theorem setSchedule_ports (es : List Entry) : (s.setSchedule es).ports = s.ports := rfl
@[simp] theorem setSchedule_lines (es : List Entry) : (s.setSchedule es).lines = s.lines := rfl
@[simp] theorem setSchedule_outputs (es : List Entry) : (s.setSchedule es).outputs = s.outputs := rfl
@[simp] theorem setSchedule_userBits (es : List Entry) : (s.setSchedule es).userBits = s.userBits := rfl
@[simp] theorem setSchedule_inputs (es : List Entry) : (s.setSchedule es).inputs = s.inputs := rfl
@[simp] theorem setSchedule_devices (es : List Entry) : (s.setSchedule es).devices = s.devices := rfl
@[simp] theorem setSchedule_runs (es : List Entry) : (s.setSchedule es).runs = s.runs := rfl
@[simp] theorem setSchedule_marks (es : List Entry) : (s.setSchedule es).marks = s.marks := rfl
@[simp] theorem setSchedule_groups (es : List Entry) : (s.setSchedule es).groups = s.groups := rfl
@[simp] theorem setSchedule_schedule (es : List Entry) : (s.setSchedule es).schedule = es := rfl
@[simp] theorem setSchedule_scanner (es : List Entry) : (s.setSchedule es).scanner = s.scanner := rfl
@[simp] theorem setSchedule_writer (es : List Entry) : (s.setSchedule es).writer = s.writer := rfl
@[simp] theorem setSchedule_store (es : List Entry) : (s.setSchedule es).store = s.store := rfl
@[simp] theorem setSchedule_bus (es : List Entry) : (s.setSchedule es).bus = s.bus := rfl
@[simp] theorem setSchedule_pins (es : List Entry) : (s.setSchedule es).pins = s.pins := rfl
@[simp] theorem setSchedule_hold (es : List Entry) : (s.setSchedule es).hold = s.hold := rfl
@[simp] theorem setSchedule_owed (es : List Entry) : (s.setSchedule es).owed = s.owed := rfl
@[simp] theorem setSchedule_uses (es : List Entry) : (s.setSchedule es).uses = s.uses := rfl
@[simp] theorem setSchedule_pending (es : List Entry) : (s.setSchedule es).pending = s.pending := rfl

/-! ### setScanner -/

@[simp] theorem setScanner_clock (x : Scanner) : (s.setScanner x).clock = s.clock := rfl
@[simp] theorem setScanner_ports (x : Scanner) : (s.setScanner x).ports = s.ports := rfl
@[simp] theorem setScanner_lines (x : Scanner) : (s.setScanner x).lines = s.lines := rfl
@[simp] theorem setScanner_outputs (x : Scanner) : (s.setScanner x).outputs = s.outputs := rfl
@[simp] theorem setScanner_userBits (x : Scanner) : (s.setScanner x).userBits = s.userBits := rfl
@[simp] theorem setScanner_inputs (x : Scanner) : (s.setScanner x).inputs = s.inputs := rfl
@[simp] theorem setScanner_devices (x : Scanner) : (s.setScanner x).devices = s.devices := rfl
@[simp] theorem setScanner_runs (x : Scanner) : (s.setScanner x).runs = s.runs := rfl
@[simp] theorem setScanner_marks (x : Scanner) : (s.setScanner x).marks = s.marks := rfl
@[simp] theorem setScanner_groups (x : Scanner) : (s.setScanner x).groups = s.groups := rfl
@[simp] theorem setScanner_schedule (x : Scanner) : (s.setScanner x).schedule = s.schedule := rfl
@[simp] theorem setScanner_scanner (x : Scanner) : (s.setScanner x).scanner = x := rfl
@[simp] theorem setScanner_writer (x : Scanner) : (s.setScanner x).writer = s.writer := rfl
@[simp] theorem setScanner_store (x : Scanner) : (s.setScanner x).store = s.store := rfl
@[simp] theorem setScanner_bus (x : Scanner) : (s.setScanner x).bus = s.bus := rfl
@[simp] theorem setScanner_pins (x : Scanner) : (s.setScanner x).pins = s.pins := rfl
@[simp] theorem setScanner_hold (x : Scanner) : (s.setScanner x).hold = s.hold := rfl
@[simp] theorem setScanner_owed (x : Scanner) : (s.setScanner x).owed = s.owed := rfl
@[simp] theorem setScanner_uses (x : Scanner) : (s.setScanner x).uses = s.uses := rfl
@[simp] theorem setScanner_pending (x : Scanner) : (s.setScanner x).pending = s.pending := rfl

/-! ### setWriter -/

@[simp] theorem setWriter_clock (w : Writer) : (s.setWriter w).clock = s.clock := rfl
@[simp] theorem setWriter_ports (w : Writer) : (s.setWriter w).ports = s.ports := rfl
@[simp] theorem setWriter_lines (w : Writer) : (s.setWriter w).lines = s.lines := rfl
@[simp] theorem setWriter_outputs (w : Writer) : (s.setWriter w).outputs = s.outputs := rfl
@[simp] theorem setWriter_userBits (w : Writer) : (s.setWriter w).userBits = s.userBits := rfl
@[simp] theorem setWriter_inputs (w : Writer) : (s.setWriter w).inputs = s.inputs := rfl
@[simp] theorem setWriter_devices (w : Writer) : (s.setWriter w).devices = s.devices := rfl
@[simp] theorem setWriter_runs (w : Writer) : (s.setWriter w).runs = s.runs := rfl
@[simp] theorem setWriter_marks (w : Writer) : (s.setWriter w).marks = s.marks := rfl
@[simp] theorem setWriter_groups (w : Writer) : (s.setWriter w).groups = s.groups := rfl
@[simp] theorem setWriter_schedule (w : Writer) : (s.setWriter w).schedule = s.schedule := rfl
@[simp] theorem setWriter_scanner (w : Writer) : (s.setWriter w).scanner = s.scanner := rfl
@[simp] theorem setWriter_writer (w : Writer) : (s.setWriter w).writer = w := rfl
@[simp] theorem setWriter_store (w : Writer) : (s.setWriter w).store = s.store := rfl
@[simp] theorem setWriter_bus (w : Writer) : (s.setWriter w).bus = s.bus := rfl
@[simp] theorem setWriter_pins (w : Writer) : (s.setWriter w).pins = s.pins := rfl
@[simp] theorem setWriter_hold (w : Writer) : (s.setWriter w).hold = s.hold := rfl
@[simp] theorem setWriter_owed (w : Writer) : (s.setWriter w).owed = s.owed := rfl
@[simp] theorem setWriter_uses (w : Writer) : (s.setWriter w).uses = s.uses := rfl
@[simp] theorem setWriter_pending (w : Writer) : (s.setWriter w).pending = s.pending := rfl

/-! ### setPins -/

@[simp] theorem setPins_clock (p : Pins) : (s.setPins p).clock = s.clock := rfl
@[simp] theorem setPins_ports (p : Pins) : (s.setPins p).ports = s.ports := rfl
@[simp] theorem setPins_lines (p : Pins) : (s.setPins p).lines = s.lines := rfl
@[simp] theorem setPins_outputs (p : Pins) : (s.setPins p).outputs = s.outputs := rfl
@[simp] theorem setPins_userBits (p : Pins) : (s.setPins p).userBits = s.userBits := rfl
@[simp] theorem setPins_inputs (p : Pins) : (s.setPins p).inputs = s.inputs := rfl
@[simp] theorem setPins_devices (p : Pins) : (s.setPins p).devices = s.devices := rfl
@[simp] theorem setPins_runs (p : Pins) : (s.setPins p).runs = s.runs := rfl
@[simp] theorem setPins_marks (p : Pins) : (s.setPins p).marks = s.marks := rfl
@[simp] theorem setPins_groups (p : Pins) : (s.setPins p).groups = s.groups := rfl
@[simp] theorem setPins_schedule (p : Pins) : (s.setPins p).schedule = s.schedule := rfl
@[simp] theorem setPins_scanner (p : Pins) : (s.setPins p).scanner = s.scanner := rfl
@[simp] theorem setPins_writer (p : Pins) : (s.setPins p).writer = s.writer := rfl
@[simp] theorem setPins_store (p : Pins) : (s.setPins p).store = s.store := rfl
@[simp] theorem setPins_bus (p : Pins) : (s.setPins p).bus = s.bus := rfl
@[simp] theorem setPins_pins (p : Pins) : (s.setPins p).pins = p := rfl
@[simp] theorem setPins_hold (p : Pins) : (s.setPins p).hold = s.hold := rfl
@[simp] theorem setPins_owed (p : Pins) : (s.setPins p).owed = s.owed := rfl
@[simp] theorem setPins_uses (p : Pins) : (s.setPins p).uses = s.uses := rfl
@[simp] theorem setPins_pending (p : Pins) : (s.setPins p).pending = s.pending := rfl

/-! ### setHold -/

@[simp] theorem setHold_clock (h : Hold) : (s.setHold h).clock = s.clock := rfl
@[simp] theorem setHold_ports (h : Hold) : (s.setHold h).ports = s.ports := rfl
@[simp] theorem setHold_lines (h : Hold) : (s.setHold h).lines = s.lines := rfl
@[simp] theorem setHold_outputs (h : Hold) : (s.setHold h).outputs = s.outputs := rfl
@[simp] theorem setHold_userBits (h : Hold) : (s.setHold h).userBits = s.userBits := rfl
@[simp] theorem setHold_inputs (h : Hold) : (s.setHold h).inputs = s.inputs := rfl
@[simp] theorem setHold_devices (h : Hold) : (s.setHold h).devices = s.devices := rfl
@[simp] theorem setHold_runs (h : Hold) : (s.setHold h).runs = s.runs := rfl
@[simp] theorem setHold_marks (h : Hold) : (s.setHold h).marks = s.marks := rfl
@[simp] theorem setHold_groups (h : Hold) : (s.setHold h).groups = s.groups := rfl
@[simp] theorem setHold_schedule (h : Hold) : (s.setHold h).schedule = s.schedule := rfl
@[simp] theorem setHold_scanner (h : Hold) : (s.setHold h).scanner = s.scanner := rfl
@[simp] theorem setHold_writer (h : Hold) : (s.setHold h).writer = s.writer := rfl
@[simp] theorem setHold_store (h : Hold) : (s.setHold h).store = s.store := rfl
@[simp] theorem setHold_bus (h : Hold) : (s.setHold h).bus = s.bus := rfl
@[simp] theorem setHold_pins (h : Hold) : (s.setHold h).pins = s.pins := rfl
@[simp] theorem setHold_hold (h : Hold) : (s.setHold h).hold = h := rfl
@[simp] theorem setHold_owed (h : Hold) : (s.setHold h).owed = s.owed := rfl
@[simp] theorem setHold_uses (h : Hold) : (s.setHold h).uses = s.uses := rfl
@[simp] theorem setHold_pending (h : Hold) : (s.setHold h).pending = s.pending := rfl

/-! ### setOwed -/

@[simp] theorem setOwed_clock (x : Owed) : (s.setOwed x).clock = s.clock := rfl
@[simp] theorem setOwed_ports (x : Owed) : (s.setOwed x).ports = s.ports := rfl
@[simp] theorem setOwed_lines (x : Owed) : (s.setOwed x).lines = s.lines := rfl
@[simp] theorem setOwed_outputs (x : Owed) : (s.setOwed x).outputs = s.outputs := rfl
@[simp] theorem setOwed_userBits (x : Owed) : (s.setOwed x).userBits = s.userBits := rfl
@[simp] theorem setOwed_inputs (x : Owed) : (s.setOwed x).inputs = s.inputs := rfl
@[simp] theorem setOwed_devices (x : Owed) : (s.setOwed x).devices = s.devices := rfl
@[simp] theorem setOwed_runs (x : Owed) : (s.setOwed x).runs = s.runs := rfl
@[simp] theorem setOwed_marks (x : Owed) : (s.setOwed x).marks = s.marks := rfl
@[simp] theorem setOwed_groups (x : Owed) : (s.setOwed x).groups = s.groups := rfl
@[simp] theorem setOwed_schedule (x : Owed) : (s.setOwed x).schedule = s.schedule := rfl
@[simp] theorem setOwed_scanner (x : Owed) : (s.setOwed x).scanner = s.scanner := rfl
@[simp] theorem setOwed_writer (x : Owed) : (s.setOwed x).writer = s.writer := rfl
@[simp] theorem setOwed_store (x : Owed) : (s.setOwed x).store = s.store := rfl
@[simp] theorem setOwed_bus (x : Owed) : (s.setOwed x).bus = s.bus := rfl
@[simp] theorem setOwed_pins (x : Owed) : (s.setOwed x).pins = s.pins := rfl
@[simp] theorem setOwed_hold (x : Owed) : (s.setOwed x).hold = s.hold := rfl
@[simp] theorem setOwed_owed (x : Owed) : (s.setOwed x).owed = x := rfl
@[simp] theorem setOwed_uses (x : Owed) : (s.setOwed x).uses = s.uses := rfl
@[simp] theorem setOwed_pending (x : Owed) : (s.setOwed x).pending = s.pending := rfl

/-! ### putWord -/

@[simp] theorem putWord_clock (a : Nat) (w : Word) : (s.putWord a w).clock = s.clock := rfl
@[simp] theorem putWord_ports (a : Nat) (w : Word) : (s.putWord a w).ports = s.ports := rfl
@[simp] theorem putWord_lines (a : Nat) (w : Word) : (s.putWord a w).lines = s.lines := rfl
@[simp] theorem putWord_outputs (a : Nat) (w : Word) : (s.putWord a w).outputs = s.outputs := rfl
@[simp] theorem putWord_userBits (a : Nat) (w : Word) : (s.putWord a w).userBits = s.userBits := rfl
@[simp] theorem putWord_inputs (a : Nat) (w : Word) : (s.putWord a w).inputs = s.inputs := rfl
@[simp] theorem putWord_devices (a : Nat) (w : Word) : (s.putWord a w).devices = s.devices := rfl
@[simp] theorem putWord_runs (a : Nat) (w : Word) : (s.putWord a w).runs = s.runs := rfl
@[simp] theorem putWord_marks (a : Nat) (w : Word) : (s.putWord a w).marks = s.marks := rfl
@[simp] theorem putWord_groups (a : Nat) (w : Word) : (s.putWord a w).groups = s.groups := rfl
@[simp] theorem putWord_schedule (a : Nat) (w : Word) : (s.putWord a w).schedule = s.schedule := rfl
@[simp] theorem putWord_scanner (a : Nat) (w : Word) : (s.putWord a w).scanner = s.scanner := rfl
@[simp] theorem putWord_writer (a : Nat) (w : Word) : (s.putWord a w).writer = s.writer := rfl
@[simp] theorem putWord_store (a : Nat) (w : Word) : (s.putWord a w).store = s.store.putWord a w := rfl
@[simp] theorem putWord_bus (a : Nat) (w : Word) : (s.putWord a w).bus = s.bus := rfl
@[simp] theorem putWord_pins (a : Nat) (w : Word) : (s.putWord a w).pins = s.pins := rfl
@[simp] theorem putWord_hold (a : Nat) (w : Word) : (s.putWord a w).hold = s.hold := rfl
@[simp] theorem putWord_owed (a : Nat) (w : Word) : (s.putWord a w).owed = s.owed := rfl
@[simp] theorem putWord_uses (a : Nat) (w : Word) : (s.putWord a w).uses = s.uses := rfl
@[simp] theorem putWord_pending (a : Nat) (w : Word) : (s.putWord a w).pending = s.pending := rfl

/-! ### putWords -/

@[simp] theorem putWords_clock (a : Nat) (ws : List Word) : (s.putWords a ws).clock = s.clock := rfl
@[simp] theorem putWords_ports (a : Nat) (ws : List Word) : (s.putWords a ws).ports = s.ports := rfl
@[simp] theorem putWords_lines (a : Nat) (ws : List Word) : (s.putWords a ws).lines = s.lines := rfl
@[simp] theorem putWords_outputs (a : Nat) (ws : List Word) : (s.putWords a ws).outputs = s.outputs := rfl
@[simp] theorem putWords_userBits (a : Nat) (ws : List Word) : (s.putWords a ws).userBits = s.userBits := rfl
@[simp] theorem putWords_inputs (a : Nat) (ws : List Word) : (s.putWords a ws).inputs = s.inputs := rfl
@[simp] theorem putWords_devices (a : Nat) (ws : List Word) : (s.putWords a ws).devices = s.devices := rfl
@[simp] theorem putWords_runs (a : Nat) (ws : List Word) : (s.putWords a ws).runs = s.runs := rfl
@[simp] theorem putWords_marks (a : Nat) (ws : List Word) : (s.putWords a ws).marks = s.marks := rfl
@[simp] theorem putWords_groups (a : Nat) (ws : List Word) : (s.putWords a ws).groups = s.groups := rfl
@[simp] theorem putWords_schedule (a : Nat) (ws : List Word) : (s.putWords a ws).schedule = s.schedule := rfl
@[simp] theorem putWords_scanner (a : Nat) (ws : List Word) : (s.putWords a ws).scanner = s.scanner := rfl
@[simp] theorem putWords_writer (a : Nat) (ws : List Word) : (s.putWords a ws).writer = s.writer := rfl
@[simp] theorem putWords_store (a : Nat) (ws : List Word) : (s.putWords a ws).store = s.store.putWords a ws := rfl
@[simp] theorem putWords_bus (a : Nat) (ws : List Word) : (s.putWords a ws).bus = s.bus := rfl
@[simp] theorem putWords_pins (a : Nat) (ws : List Word) : (s.putWords a ws).pins = s.pins := rfl
@[simp] theorem putWords_hold (a : Nat) (ws : List Word) : (s.putWords a ws).hold = s.hold := rfl
@[simp] theorem putWords_owed (a : Nat) (ws : List Word) : (s.putWords a ws).owed = s.owed := rfl
@[simp] theorem putWords_uses (a : Nat) (ws : List Word) : (s.putWords a ws).uses = s.uses := rfl
@[simp] theorem putWords_pending (a : Nat) (ws : List Word) : (s.putWords a ws).pending = s.pending := rfl

/-! ### putSlotState -/

@[simp] theorem putSlotState_clock (n : SlotId) (w : Word) : (s.putSlotState n w).clock = s.clock := rfl
@[simp] theorem putSlotState_ports (n : SlotId) (w : Word) : (s.putSlotState n w).ports = s.ports := rfl
@[simp] theorem putSlotState_lines (n : SlotId) (w : Word) : (s.putSlotState n w).lines = s.lines := rfl
@[simp] theorem putSlotState_outputs (n : SlotId) (w : Word) : (s.putSlotState n w).outputs = s.outputs := rfl
@[simp] theorem putSlotState_userBits (n : SlotId) (w : Word) : (s.putSlotState n w).userBits = s.userBits := rfl
@[simp] theorem putSlotState_inputs (n : SlotId) (w : Word) : (s.putSlotState n w).inputs = s.inputs := rfl
@[simp] theorem putSlotState_devices (n : SlotId) (w : Word) : (s.putSlotState n w).devices = s.devices := rfl
@[simp] theorem putSlotState_runs (n : SlotId) (w : Word) : (s.putSlotState n w).runs = s.runs := rfl
@[simp] theorem putSlotState_marks (n : SlotId) (w : Word) : (s.putSlotState n w).marks = s.marks := rfl
@[simp] theorem putSlotState_groups (n : SlotId) (w : Word) : (s.putSlotState n w).groups = s.groups := rfl
@[simp] theorem putSlotState_schedule (n : SlotId) (w : Word) : (s.putSlotState n w).schedule = s.schedule := rfl
@[simp] theorem putSlotState_scanner (n : SlotId) (w : Word) : (s.putSlotState n w).scanner = s.scanner := rfl
@[simp] theorem putSlotState_writer (n : SlotId) (w : Word) : (s.putSlotState n w).writer = s.writer := rfl
@[simp] theorem putSlotState_store (n : SlotId) (w : Word) : (s.putSlotState n w).store = s.store.putWord (Address.slot n) w := rfl
@[simp] theorem putSlotState_bus (n : SlotId) (w : Word) : (s.putSlotState n w).bus = s.bus := rfl
@[simp] theorem putSlotState_pins (n : SlotId) (w : Word) : (s.putSlotState n w).pins = s.pins := rfl
@[simp] theorem putSlotState_hold (n : SlotId) (w : Word) : (s.putSlotState n w).hold = s.hold := rfl
@[simp] theorem putSlotState_owed (n : SlotId) (w : Word) : (s.putSlotState n w).owed = s.owed := rfl
@[simp] theorem putSlotState_uses (n : SlotId) (w : Word) : (s.putSlotState n w).uses = s.uses := rfl
@[simp] theorem putSlotState_pending (n : SlotId) (w : Word) : (s.putSlotState n w).pending = s.pending := rfl

/-! ### noticeTakes -/

@[simp] theorem noticeTakes_clock (p : Take → Bool) (f : Take → Take) : (s.noticeTakes p f).clock = s.clock := rfl
@[simp] theorem noticeTakes_ports (p : Take → Bool) (f : Take → Take) : (s.noticeTakes p f).ports = s.ports := rfl
@[simp] theorem noticeTakes_lines (p : Take → Bool) (f : Take → Take) : (s.noticeTakes p f).lines = s.lines := rfl
@[simp] theorem noticeTakes_outputs (p : Take → Bool) (f : Take → Take) : (s.noticeTakes p f).outputs = s.outputs := rfl
@[simp] theorem noticeTakes_userBits (p : Take → Bool) (f : Take → Take) : (s.noticeTakes p f).userBits = s.userBits := rfl
@[simp] theorem noticeTakes_inputs (p : Take → Bool) (f : Take → Take) : (s.noticeTakes p f).inputs = s.inputs := rfl
@[simp] theorem noticeTakes_devices (p : Take → Bool) (f : Take → Take) : (s.noticeTakes p f).devices = s.devices := rfl
@[simp] theorem noticeTakes_runs (p : Take → Bool) (f : Take → Take) : (s.noticeTakes p f).runs = s.runs := rfl
@[simp] theorem noticeTakes_marks (p : Take → Bool) (f : Take → Take) : (s.noticeTakes p f).marks = s.marks := rfl
@[simp] theorem noticeTakes_groups (p : Take → Bool) (f : Take → Take) : (s.noticeTakes p f).groups = s.groups.map (Group.mapOpen p f) := rfl
@[simp] theorem noticeTakes_schedule (p : Take → Bool) (f : Take → Take) : (s.noticeTakes p f).schedule = s.schedule := rfl
@[simp] theorem noticeTakes_scanner (p : Take → Bool) (f : Take → Take) : (s.noticeTakes p f).scanner = s.scanner := rfl
@[simp] theorem noticeTakes_writer (p : Take → Bool) (f : Take → Take) : (s.noticeTakes p f).writer = s.writer := rfl
@[simp] theorem noticeTakes_store (p : Take → Bool) (f : Take → Take) : (s.noticeTakes p f).store = s.store := rfl
@[simp] theorem noticeTakes_bus (p : Take → Bool) (f : Take → Take) : (s.noticeTakes p f).bus = s.bus := rfl
@[simp] theorem noticeTakes_pins (p : Take → Bool) (f : Take → Take) : (s.noticeTakes p f).pins = s.pins := rfl
@[simp] theorem noticeTakes_hold (p : Take → Bool) (f : Take → Take) : (s.noticeTakes p f).hold = s.hold := rfl
@[simp] theorem noticeTakes_owed (p : Take → Bool) (f : Take → Take) : (s.noticeTakes p f).owed = s.owed := rfl
@[simp] theorem noticeTakes_uses (p : Take → Bool) (f : Take → Take) : (s.noticeTakes p f).uses = s.uses := rfl
@[simp] theorem noticeTakes_pending (p : Take → Bool) (f : Take → Take) : (s.noticeTakes p f).pending = s.pending := rfl

end Sys2Proof.Machine.State
end

