-- ==== Sys2Proof/Laws/Door.lean ====
section
/-! SUPPORT. The Report Writer's door touches nothing but the writer and the store (R174, R176, R177): what every other
field reads after a report or a completion is handed. -/

namespace Sys2Proof.Machine.State

variable (s : State)

@[simp] theorem countDrop_clock : s.countDrop.clock = s.clock := by
  unfold State.countDrop; split <;> rfl
@[simp] theorem countDrop_ports : s.countDrop.ports = s.ports := by
  unfold State.countDrop; split <;> rfl
@[simp] theorem countDrop_lines : s.countDrop.lines = s.lines := by
  unfold State.countDrop; split <;> rfl
@[simp] theorem countDrop_outputs : s.countDrop.outputs = s.outputs := by
  unfold State.countDrop; split <;> rfl
@[simp] theorem countDrop_userBits : s.countDrop.userBits = s.userBits := by
  unfold State.countDrop; split <;> rfl
@[simp] theorem countDrop_inputs : s.countDrop.inputs = s.inputs := by
  unfold State.countDrop; split <;> rfl
@[simp] theorem countDrop_devices : s.countDrop.devices = s.devices := by
  unfold State.countDrop; split <;> rfl
@[simp] theorem countDrop_runs : s.countDrop.runs = s.runs := by
  unfold State.countDrop; split <;> rfl
@[simp] theorem countDrop_marks : s.countDrop.marks = s.marks := by
  unfold State.countDrop; split <;> rfl
@[simp] theorem countDrop_groups : s.countDrop.groups = s.groups := by
  unfold State.countDrop; split <;> rfl
@[simp] theorem countDrop_schedule : s.countDrop.schedule = s.schedule := by
  unfold State.countDrop; split <;> rfl
@[simp] theorem countDrop_scanner : s.countDrop.scanner = s.scanner := by
  unfold State.countDrop; split <;> rfl
@[simp] theorem countDrop_bus : s.countDrop.bus = s.bus := by
  unfold State.countDrop; split <;> rfl
@[simp] theorem countDrop_pins : s.countDrop.pins = s.pins := by
  unfold State.countDrop; split <;> rfl
@[simp] theorem countDrop_hold : s.countDrop.hold = s.hold := by
  unfold State.countDrop; split <;> rfl
@[simp] theorem countDrop_owed : s.countDrop.owed = s.owed := by
  unfold State.countDrop; split <;> rfl
@[simp] theorem countDrop_uses : s.countDrop.uses = s.uses := by
  unfold State.countDrop; split <;> rfl
@[simp] theorem countDrop_pending : s.countDrop.pending = s.pending := by
  unfold State.countDrop; split <;> rfl

@[simp] theorem acceptReport_clock (r : Report) : (s.acceptReport r).clock = s.clock := by
  unfold State.acceptReport; dsimp only; split
  · rfl
  · rw [countDrop_clock]; rfl
@[simp] theorem acceptReport_ports (r : Report) : (s.acceptReport r).ports = s.ports := by
  unfold State.acceptReport; dsimp only; split
  · rfl
  · rw [countDrop_ports]; rfl
@[simp] theorem acceptReport_lines (r : Report) : (s.acceptReport r).lines = s.lines := by
  unfold State.acceptReport; dsimp only; split
  · rfl
  · rw [countDrop_lines]; rfl
@[simp] theorem acceptReport_outputs (r : Report) : (s.acceptReport r).outputs = s.outputs := by
  unfold State.acceptReport; dsimp only; split
  · rfl
  · rw [countDrop_outputs]; rfl
@[simp] theorem acceptReport_userBits (r : Report) : (s.acceptReport r).userBits = s.userBits := by
  unfold State.acceptReport; dsimp only; split
  · rfl
  · rw [countDrop_userBits]; rfl
@[simp] theorem acceptReport_inputs (r : Report) : (s.acceptReport r).inputs = s.inputs := by
  unfold State.acceptReport; dsimp only; split
  · rfl
  · rw [countDrop_inputs]; rfl
@[simp] theorem acceptReport_devices (r : Report) : (s.acceptReport r).devices = s.devices := by
  unfold State.acceptReport; dsimp only; split
  · rfl
  · rw [countDrop_devices]; rfl
@[simp] theorem acceptReport_runs (r : Report) : (s.acceptReport r).runs = s.runs := by
  unfold State.acceptReport; dsimp only; split
  · rfl
  · rw [countDrop_runs]; rfl
@[simp] theorem acceptReport_marks (r : Report) : (s.acceptReport r).marks = s.marks := by
  unfold State.acceptReport; dsimp only; split
  · rfl
  · rw [countDrop_marks]; rfl
@[simp] theorem acceptReport_groups (r : Report) : (s.acceptReport r).groups = s.groups := by
  unfold State.acceptReport; dsimp only; split
  · rfl
  · rw [countDrop_groups]; rfl
@[simp] theorem acceptReport_schedule (r : Report) : (s.acceptReport r).schedule = s.schedule := by
  unfold State.acceptReport; dsimp only; split
  · rfl
  · rw [countDrop_schedule]; rfl
@[simp] theorem acceptReport_scanner (r : Report) : (s.acceptReport r).scanner = s.scanner := by
  unfold State.acceptReport; dsimp only; split
  · rfl
  · rw [countDrop_scanner]; rfl
@[simp] theorem acceptReport_bus (r : Report) : (s.acceptReport r).bus = s.bus := by
  unfold State.acceptReport; dsimp only; split
  · rfl
  · rw [countDrop_bus]; rfl
@[simp] theorem acceptReport_pins (r : Report) : (s.acceptReport r).pins = s.pins := by
  unfold State.acceptReport; dsimp only; split
  · rfl
  · rw [countDrop_pins]; rfl
@[simp] theorem acceptReport_hold (r : Report) : (s.acceptReport r).hold = s.hold := by
  unfold State.acceptReport; dsimp only; split
  · rfl
  · rw [countDrop_hold]; rfl
@[simp] theorem acceptReport_owed (r : Report) : (s.acceptReport r).owed = s.owed := by
  unfold State.acceptReport; dsimp only; split
  · rfl
  · rw [countDrop_owed]; rfl
@[simp] theorem acceptReport_uses (r : Report) : (s.acceptReport r).uses = s.uses := by
  unfold State.acceptReport; dsimp only; split
  · rfl
  · rw [countDrop_uses]; rfl
@[simp] theorem acceptReport_pending (r : Report) : (s.acceptReport r).pending = s.pending := by
  unfold State.acceptReport; dsimp only; split
  · rfl
  · rw [countDrop_pending]; rfl

@[simp] theorem acceptCompletion_clock (c : Completion) : (s.acceptCompletion c).clock = s.clock := by
  rfl
@[simp] theorem acceptCompletion_ports (c : Completion) : (s.acceptCompletion c).ports = s.ports := by
  rfl
@[simp] theorem acceptCompletion_lines (c : Completion) : (s.acceptCompletion c).lines = s.lines := by
  rfl
@[simp] theorem acceptCompletion_outputs (c : Completion) : (s.acceptCompletion c).outputs = s.outputs := by
  rfl
@[simp] theorem acceptCompletion_userBits (c : Completion) : (s.acceptCompletion c).userBits = s.userBits := by
  rfl
@[simp] theorem acceptCompletion_inputs (c : Completion) : (s.acceptCompletion c).inputs = s.inputs := by
  rfl
@[simp] theorem acceptCompletion_devices (c : Completion) : (s.acceptCompletion c).devices = s.devices := by
  rfl
@[simp] theorem acceptCompletion_runs (c : Completion) : (s.acceptCompletion c).runs = s.runs := by
  rfl
@[simp] theorem acceptCompletion_marks (c : Completion) : (s.acceptCompletion c).marks = s.marks := by
  rfl
@[simp] theorem acceptCompletion_groups (c : Completion) : (s.acceptCompletion c).groups = s.groups := by
  rfl
@[simp] theorem acceptCompletion_schedule (c : Completion) : (s.acceptCompletion c).schedule = s.schedule := by
  rfl
@[simp] theorem acceptCompletion_scanner (c : Completion) : (s.acceptCompletion c).scanner = s.scanner := by
  rfl
@[simp] theorem acceptCompletion_bus (c : Completion) : (s.acceptCompletion c).bus = s.bus := by
  rfl
@[simp] theorem acceptCompletion_pins (c : Completion) : (s.acceptCompletion c).pins = s.pins := by
  rfl
@[simp] theorem acceptCompletion_hold (c : Completion) : (s.acceptCompletion c).hold = s.hold := by
  rfl
@[simp] theorem acceptCompletion_owed (c : Completion) : (s.acceptCompletion c).owed = s.owed := by
  rfl
@[simp] theorem acceptCompletion_uses (c : Completion) : (s.acceptCompletion c).uses = s.uses := by
  rfl
@[simp] theorem acceptCompletion_pending (c : Completion) : (s.acceptCompletion c).pending = s.pending := by
  rfl

@[simp] theorem handReport_clock (r : Report) : (s.handReport r).clock = s.clock := by
  unfold State.handReport; split
  · exact acceptReport_clock s r
  · split
    · rfl
    · exact countDrop_clock s
@[simp] theorem handReport_ports (r : Report) : (s.handReport r).ports = s.ports := by
  unfold State.handReport; split
  · exact acceptReport_ports s r
  · split
    · rfl
    · exact countDrop_ports s
@[simp] theorem handReport_lines (r : Report) : (s.handReport r).lines = s.lines := by
  unfold State.handReport; split
  · exact acceptReport_lines s r
  · split
    · rfl
    · exact countDrop_lines s
@[simp] theorem handReport_outputs (r : Report) : (s.handReport r).outputs = s.outputs := by
  unfold State.handReport; split
  · exact acceptReport_outputs s r
  · split
    · rfl
    · exact countDrop_outputs s
@[simp] theorem handReport_userBits (r : Report) : (s.handReport r).userBits = s.userBits := by
  unfold State.handReport; split
  · exact acceptReport_userBits s r
  · split
    · rfl
    · exact countDrop_userBits s
@[simp] theorem handReport_inputs (r : Report) : (s.handReport r).inputs = s.inputs := by
  unfold State.handReport; split
  · exact acceptReport_inputs s r
  · split
    · rfl
    · exact countDrop_inputs s
@[simp] theorem handReport_devices (r : Report) : (s.handReport r).devices = s.devices := by
  unfold State.handReport; split
  · exact acceptReport_devices s r
  · split
    · rfl
    · exact countDrop_devices s
@[simp] theorem handReport_runs (r : Report) : (s.handReport r).runs = s.runs := by
  unfold State.handReport; split
  · exact acceptReport_runs s r
  · split
    · rfl
    · exact countDrop_runs s
@[simp] theorem handReport_marks (r : Report) : (s.handReport r).marks = s.marks := by
  unfold State.handReport; split
  · exact acceptReport_marks s r
  · split
    · rfl
    · exact countDrop_marks s
@[simp] theorem handReport_groups (r : Report) : (s.handReport r).groups = s.groups := by
  unfold State.handReport; split
  · exact acceptReport_groups s r
  · split
    · rfl
    · exact countDrop_groups s
@[simp] theorem handReport_schedule (r : Report) : (s.handReport r).schedule = s.schedule := by
  unfold State.handReport; split
  · exact acceptReport_schedule s r
  · split
    · rfl
    · exact countDrop_schedule s
@[simp] theorem handReport_scanner (r : Report) : (s.handReport r).scanner = s.scanner := by
  unfold State.handReport; split
  · exact acceptReport_scanner s r
  · split
    · rfl
    · exact countDrop_scanner s
@[simp] theorem handReport_bus (r : Report) : (s.handReport r).bus = s.bus := by
  unfold State.handReport; split
  · exact acceptReport_bus s r
  · split
    · rfl
    · exact countDrop_bus s
@[simp] theorem handReport_pins (r : Report) : (s.handReport r).pins = s.pins := by
  unfold State.handReport; split
  · exact acceptReport_pins s r
  · split
    · rfl
    · exact countDrop_pins s
@[simp] theorem handReport_hold (r : Report) : (s.handReport r).hold = s.hold := by
  unfold State.handReport; split
  · exact acceptReport_hold s r
  · split
    · rfl
    · exact countDrop_hold s
@[simp] theorem handReport_owed (r : Report) : (s.handReport r).owed = s.owed := by
  unfold State.handReport; split
  · exact acceptReport_owed s r
  · split
    · rfl
    · exact countDrop_owed s
@[simp] theorem handReport_uses (r : Report) : (s.handReport r).uses = s.uses := by
  unfold State.handReport; split
  · exact acceptReport_uses s r
  · split
    · rfl
    · exact countDrop_uses s
@[simp] theorem handReport_pending (r : Report) : (s.handReport r).pending = s.pending := by
  unfold State.handReport; split
  · exact acceptReport_pending s r
  · split
    · rfl
    · exact countDrop_pending s

@[simp] theorem handCompletion_clock (c : Completion) : (s.handCompletion c).clock = s.clock := by
  unfold State.handCompletion; split <;> rfl
@[simp] theorem handCompletion_ports (c : Completion) : (s.handCompletion c).ports = s.ports := by
  unfold State.handCompletion; split <;> rfl
@[simp] theorem handCompletion_lines (c : Completion) : (s.handCompletion c).lines = s.lines := by
  unfold State.handCompletion; split <;> rfl
@[simp] theorem handCompletion_outputs (c : Completion) : (s.handCompletion c).outputs = s.outputs := by
  unfold State.handCompletion; split <;> rfl
@[simp] theorem handCompletion_userBits (c : Completion) : (s.handCompletion c).userBits = s.userBits := by
  unfold State.handCompletion; split <;> rfl
@[simp] theorem handCompletion_inputs (c : Completion) : (s.handCompletion c).inputs = s.inputs := by
  unfold State.handCompletion; split <;> rfl
@[simp] theorem handCompletion_devices (c : Completion) : (s.handCompletion c).devices = s.devices := by
  unfold State.handCompletion; split <;> rfl
@[simp] theorem handCompletion_runs (c : Completion) : (s.handCompletion c).runs = s.runs := by
  unfold State.handCompletion; split <;> rfl
@[simp] theorem handCompletion_marks (c : Completion) : (s.handCompletion c).marks = s.marks := by
  unfold State.handCompletion; split <;> rfl
@[simp] theorem handCompletion_groups (c : Completion) : (s.handCompletion c).groups = s.groups := by
  unfold State.handCompletion; split <;> rfl
@[simp] theorem handCompletion_schedule (c : Completion) : (s.handCompletion c).schedule = s.schedule := by
  unfold State.handCompletion; split <;> rfl
@[simp] theorem handCompletion_scanner (c : Completion) : (s.handCompletion c).scanner = s.scanner := by
  unfold State.handCompletion; split <;> rfl
@[simp] theorem handCompletion_bus (c : Completion) : (s.handCompletion c).bus = s.bus := by
  unfold State.handCompletion; split <;> rfl
@[simp] theorem handCompletion_pins (c : Completion) : (s.handCompletion c).pins = s.pins := by
  unfold State.handCompletion; split <;> rfl
@[simp] theorem handCompletion_hold (c : Completion) : (s.handCompletion c).hold = s.hold := by
  unfold State.handCompletion; split <;> rfl
@[simp] theorem handCompletion_owed (c : Completion) : (s.handCompletion c).owed = s.owed := by
  unfold State.handCompletion; split <;> rfl
@[simp] theorem handCompletion_uses (c : Completion) : (s.handCompletion c).uses = s.uses := by
  unfold State.handCompletion; split <;> rfl
@[simp] theorem handCompletion_pending (c : Completion) : (s.handCompletion c).pending = s.pending := by
  unfold State.handCompletion; split <;> rfl

@[simp] theorem report_clock (u : Bool) (b : ReportBody) : (s.report u b).clock = s.clock := by
  exact handReport_clock s _
@[simp] theorem report_ports (u : Bool) (b : ReportBody) : (s.report u b).ports = s.ports := by
  exact handReport_ports s _
@[simp] theorem report_lines (u : Bool) (b : ReportBody) : (s.report u b).lines = s.lines := by
  exact handReport_lines s _
@[simp] theorem report_outputs (u : Bool) (b : ReportBody) : (s.report u b).outputs = s.outputs := by
  exact handReport_outputs s _
@[simp] theorem report_userBits (u : Bool) (b : ReportBody) : (s.report u b).userBits = s.userBits := by
  exact handReport_userBits s _
@[simp] theorem report_inputs (u : Bool) (b : ReportBody) : (s.report u b).inputs = s.inputs := by
  exact handReport_inputs s _
@[simp] theorem report_devices (u : Bool) (b : ReportBody) : (s.report u b).devices = s.devices := by
  exact handReport_devices s _
@[simp] theorem report_runs (u : Bool) (b : ReportBody) : (s.report u b).runs = s.runs := by
  exact handReport_runs s _
@[simp] theorem report_marks (u : Bool) (b : ReportBody) : (s.report u b).marks = s.marks := by
  exact handReport_marks s _
@[simp] theorem report_groups (u : Bool) (b : ReportBody) : (s.report u b).groups = s.groups := by
  exact handReport_groups s _
@[simp] theorem report_schedule (u : Bool) (b : ReportBody) : (s.report u b).schedule = s.schedule := by
  exact handReport_schedule s _
@[simp] theorem report_scanner (u : Bool) (b : ReportBody) : (s.report u b).scanner = s.scanner := by
  exact handReport_scanner s _
@[simp] theorem report_bus (u : Bool) (b : ReportBody) : (s.report u b).bus = s.bus := by
  exact handReport_bus s _
@[simp] theorem report_pins (u : Bool) (b : ReportBody) : (s.report u b).pins = s.pins := by
  exact handReport_pins s _
@[simp] theorem report_hold (u : Bool) (b : ReportBody) : (s.report u b).hold = s.hold := by
  exact handReport_hold s _
@[simp] theorem report_owed (u : Bool) (b : ReportBody) : (s.report u b).owed = s.owed := by
  exact handReport_owed s _
@[simp] theorem report_uses (u : Bool) (b : ReportBody) : (s.report u b).uses = s.uses := by
  exact handReport_uses s _
@[simp] theorem report_pending (u : Bool) (b : ReportBody) : (s.report u b).pending = s.pending := by
  exact handReport_pending s _

end Sys2Proof.Machine.State
end

