-- ==== Sys2Proof/Laws/Memory.lean ====
section
/-! SUPPORT. The store: every write keeps the canonical form, a read after a write, and the canonical form's uniqueness. -/

namespace Sys2Proof.Machine

theorem Memory.risingFrom_of_le {m : Memory} {j k : Nat} (h : Memory.risingFrom k m = true) (hj : j ≤ k) :
    Memory.risingFrom j m = true := by
  cases m with
  | nil => rfl
  | cons c rest =>
    obtain ⟨a, b⟩ := c
    simp only [Memory.risingFrom, Bool.and_eq_true, decide_eq_true_eq] at h ⊢
    exact ⟨⟨by omega, h.1.2⟩, h.2⟩

/-- A listed address is at the bound or above: below it every byte reads 0. -/
theorem Memory.get_below {m : Memory} {k x : Nat} (h : Memory.risingFrom k m = true) (hx : x < k) :
    m.get x = 0 := by
  induction m generalizing k with
  | nil => rfl
  | cons c rest ih =>
    obtain ⟨a, b⟩ := c
    simp only [Memory.risingFrom, Bool.and_eq_true, decide_eq_true_eq] at h
    rw [Memory.get, if_neg (by omega)]
    exact ih h.2 (by omega)

theorem Memory.risingFrom_cell_append {m : Memory} {k x : Nat} (v : Byte) (h : Memory.risingFrom (x + 1) m = true)
    (hk : k ≤ x) : Memory.risingFrom k (Memory.cell x v ++ m) = true := by
  unfold Memory.cell
  split
  · exact Memory.risingFrom_of_le h (by omega)
  · next hv =>
    simp only [List.cons_append, List.nil_append, Memory.risingFrom, Bool.and_eq_true, decide_eq_true_eq]
    exact ⟨⟨hk, hv⟩, h⟩

theorem Memory.risingFrom_set {m : Memory} {k x : Nat} (v : Byte) (h : Memory.risingFrom k m = true) (hk : k ≤ x) :
    Memory.risingFrom k (m.set x v) = true := by
  induction m generalizing k with
  | nil =>
    have := Memory.risingFrom_cell_append (m := []) v (x := x) rfl hk
    simpa [Memory.set] using this
  | cons c rest ih =>
    obtain ⟨a, b⟩ := c
    have h' := h
    simp only [Memory.risingFrom, Bool.and_eq_true, decide_eq_true_eq] at h'
    unfold Memory.set
    split
    · next hx =>
      refine Memory.risingFrom_cell_append v ?_ hk
      simp only [Memory.risingFrom, Bool.and_eq_true, decide_eq_true_eq]
      exact ⟨⟨by omega, h'.1.2⟩, h'.2⟩
    · split
      · next hx => exact Memory.risingFrom_cell_append v (hx ▸ h'.2) hk
      · simp only [Memory.risingFrom, Bool.and_eq_true, decide_eq_true_eq]
        exact ⟨h'.1, ih h'.2 (by omega)⟩

/-- Writing a byte keeps the canonical form. -/
theorem Memory.wf_set {m : Memory} (x : Nat) (v : Byte) (h : m.wf = true) : (m.set x v).wf = true :=
  Memory.risingFrom_set v h (Nat.zero_le x)

/-- Writing a word keeps the canonical form. -/
theorem Memory.wf_putWord {m : Memory} (a : Nat) (w : Word) (h : m.wf = true) : (m.putWord a w).wf = true :=
  Memory.wf_set _ _ (Memory.wf_set _ _ h)

/-- Writing words keeps the canonical form. -/
theorem Memory.wf_putWords {m : Memory} (a : Nat) (ws : List Word) (h : m.wf = true) :
    (m.putWords a ws).wf = true := by
  induction ws generalizing m a with
  | nil => exact h
  | cons w rest ih => exact ih _ (Memory.wf_putWord a w h)

/-- The empty store is canonical. -/
theorem Memory.wf_nil : Memory.wf [] = true := rfl

theorem Memory.get_cell_append {m : Memory} {x : Nat} (v : Byte) (y : Nat) (h : m.get x = 0) :
    Memory.get (Memory.cell x v ++ m) y = if y = x then v else m.get y := by
  unfold Memory.cell
  split
  · next hv =>
    split
    · next hy => rw [hy, hv]; exact h
    · rfl
  · simp [Memory.get]

theorem Memory.get_set_of_rising {m : Memory} {k : Nat} (x : Nat) (v : Byte) (y : Nat)
    (h : Memory.risingFrom k m = true) : (m.set x v).get y = if y = x then v else m.get y := by
  induction m generalizing k with
  | nil => simpa [Memory.set] using Memory.get_cell_append (m := []) v y rfl
  | cons c rest ih =>
    obtain ⟨a, b⟩ := c
    have h' := h
    simp only [Memory.risingFrom, Bool.and_eq_true, decide_eq_true_eq] at h'
    unfold Memory.set
    split
    · next hx =>
      refine Memory.get_cell_append v y ?_
      rw [Memory.get, if_neg (by omega)]
      exact Memory.get_below h'.2 (by omega)
    · split
      · next hx =>
        subst hx
        rw [Memory.get_cell_append v y (Memory.get_below h'.2 (by omega)), Memory.get]
        split <;> rfl
      · next hx hne =>
        rw [Memory.get, Memory.get, ih h'.2]
        split
        · next hy => rw [if_neg (by omega)]
        · rfl

/-- A byte read after a byte is written. -/
theorem Memory.get_set {m : Memory} (x : Nat) (v : Byte) (y : Nat) (h : m.wf = true) :
    (m.set x v).get y = if y = x then v else m.get y :=
  Memory.get_set_of_rising x v y h

theorem hiByte_append_loByte (w : Word) : (hiByte w ++ loByte w : BitVec 16) = w := by
  unfold hiByte loByte
  ext i hi
  simp only [BitVec.getElem_append, BitVec.getElem_extractLsb']
  split
  · simp [BitVec.getLsbD_eq_getElem hi]
  · next h =>
    have e : 8 + (i - 8) = i := by omega
    rw [e, BitVec.getLsbD_eq_getElem hi]

/-- A word read after a word is written. -/
theorem Memory.word_putWord {m : Memory} (a : Nat) (w : Word) (b : Nat) (h : m.wf = true) :
    (m.putWord a w).word b = if b = a then w else m.word b := by
  unfold Memory.word Memory.putWord
  rw [Memory.get_set _ _ _ (Memory.wf_set _ _ h), Memory.get_set _ _ _ (Memory.wf_set _ _ h),
    Memory.get_set _ _ _ h, Memory.get_set _ _ _ h]
  by_cases hb : b = a
  · subst hb
    rw [if_pos rfl, if_neg (by omega), if_pos rfl, if_pos rfl]
    exact hiByte_append_loByte w
  · rw [if_neg (by omega), if_neg (by omega), if_neg (by omega), if_neg (by omega), if_neg hb]

/-- A word read after words are written from an address upward. -/
theorem Memory.word_putWords {m : Memory} (a : Nat) (ws : List Word) (b : Nat) (h : m.wf = true) :
    (m.putWords a ws).word b = if h : a ≤ b ∧ b < a + ws.length then ws[b - a]'(by omega) else m.word b := by
  induction ws generalizing m a with
  | nil =>
    rw [dif_neg (by simp)]
    rfl
  | cons w rest ih =>
    rw [Memory.putWords, ih _ (Memory.wf_putWord a w h), Memory.word_putWord a w b h]
    by_cases hb : b = a
    · subst hb
      rw [dif_neg (by omega), if_pos rfl, dif_pos (by simp)]
      simp
    · by_cases hc : a + 1 ≤ b ∧ b < a + 1 + rest.length
      · rw [dif_pos hc, dif_pos (by simp; omega)]
        rw [List.getElem_cons]
        rw [dif_neg (by omega)]
        congr 1
        
      · rw [dif_neg hc, if_neg hb, dif_neg (by simp; omega)]

/-- Two canonical stores that read the same are the same. -/
theorem Memory.ext_of_rising {m m' : Memory} {k : Nat} (h : Memory.risingFrom k m = true)
    (h' : Memory.risingFrom k m' = true) (hg : ∀ x, m.get x = m'.get x) : m = m' := by
  induction m generalizing m' k with
  | nil =>
    cases m' with
    | nil => rfl
    | cons c rest =>
      obtain ⟨a, b⟩ := c
      simp only [Memory.risingFrom, Bool.and_eq_true, decide_eq_true_eq] at h'
      have := hg a
      rw [Memory.get, Memory.get, if_pos rfl] at this
      exact absurd this.symm h'.1.2
  | cons c rest ih =>
    obtain ⟨a, b⟩ := c
    simp only [Memory.risingFrom, Bool.and_eq_true, decide_eq_true_eq] at h
    cases m' with
    | nil =>
      have := hg a
      rw [Memory.get, Memory.get, if_pos rfl] at this
      exact absurd this h.1.2
    | cons c' rest' =>
      obtain ⟨a', b'⟩ := c'
      simp only [Memory.risingFrom, Bool.and_eq_true, decide_eq_true_eq] at h'
      have key : a = a' := by
        rcases Nat.lt_trichotomy a a' with hlt | heq | hgt
        · have := hg a
          rw [Memory.get, Memory.get, if_pos rfl, if_neg (by omega), Memory.get_below h'.2 (by omega)] at this
          exact absurd this h.1.2
        · exact heq
        · have := hg a'
          rw [Memory.get, Memory.get, if_pos rfl, if_neg (by omega), Memory.get_below h.2 (by omega)] at this
          exact absurd this.symm h'.1.2
      subst key
      have hb : b = b' := by
        have := hg a
        rwa [Memory.get, Memory.get, if_pos rfl, if_pos rfl] at this
      subst hb
      congr 1
      refine ih h.2 h'.2 fun x => ?_
      have := hg x
      rw [Memory.get, Memory.get] at this
      by_cases hx : x = a
      · rw [Memory.get_below h.2 (by omega), Memory.get_below h'.2 (by omega)]
      · rwa [if_neg hx, if_neg hx] at this

theorem Memory.ext {m m' : Memory} (h : m.wf = true) (h' : m'.wf = true) (hg : ∀ x, m.get x = m'.get x) : m = m' :=
  Memory.ext_of_rising h h' hg

end Sys2Proof.Machine
end

