-- ==== Sys2Proof/Laws/Kept.lean ====
section
/-! SUPPORT. What a property must be closed under to be kept by every shared operation: changes of the fields it does not
read, a word written, the store emptied, a clock that stays sound, and entries that leave the Schedule. One lemma per
operation below the clock and the Schedule. -/

namespace Sys2Proof.Machine

open State

/-- A property of the state that reads no more than the clock, the Schedule, the store and the queue, and is closed under
what the operations do to those. -/
structure Kept (P : State → Prop) : Prop where
  frame : ∀ s t : State, t.clock = s.clock → t.schedule = s.schedule → t.store = s.store → t.pending = s.pending →
    P s → P t
  word : ∀ (s : State) a w, P s → P (s.putWord a w)
  empty : ∀ s : State, P s → P { s with store := [] }
  clock : ∀ (s : State) c, (s.clock.sound → c.sound) → P s → P (s.setClock c)
  drop : ∀ (s : State) es, es.Sublist s.schedule → P s → P (s.setSchedule es)

/-- The store's soundness, picture time's and an untouched queue are such properties. -/
theorem kept_storeSound : Kept storeSound where
  frame s t _ _ h _ hs := by unfold storeSound at *; rw [h]; exact hs
  word s a w h := Memory.wf_putWord a w h
  empty s _ := rfl
  clock s c _ h := h
  drop s es _ h := h

theorem kept_pictureSound : Kept pictureSound where
  frame s t h _ _ _ hs := by unfold pictureSound at *; rw [h]; exact hs
  word s a w h := h
  empty s h := h
  clock s c hc h := hc h
  drop s es _ h := h

theorem kept_pending (q : List Instr) : Kept fun s => s.pending = q where
  frame s t _ _ _ h hs := by rw [h]; exact hs
  word s a w h := h
  empty s h := h
  clock s c _ h := h
  drop s es _ h := h

theorem kept_schedule (es : List Entry) : Kept fun s => s.schedule.Sublist es where
  frame s t _ h _ _ hs := by rw [h]; exact hs
  word s a w h := h
  empty s h := h
  clock s c _ h := h
  drop s xs hx h := hx.trans h

/-- The clock after a hard reset is sound. -/
theorem Clock.sound_reset : Clock.reset.sound :=
  ⟨Nat.zero_le _, ⟨by decide, by decide⟩, by decide, by decide, by simp [Clock.reset], by simp [Clock.reset]⟩

namespace Kept

variable {P : State → Prop} {s : State}

theorem forEach (n : Nat) {f : Fin n → State → State} (hf : ∀ i s, P s → P (f i s)) (h : P s) :
    P (Machine.forEach n f s) := by
  unfold Machine.forEach
  generalize List.finRange n = l
  induction l generalizing s with
  | nil => exact h
  | cons i rest ih => exact ih (hf i s h)

theorem foldl {α : Type} {f : State → α → State} (hf : ∀ s x, P s → P (f s x)) (l : List α) (h : P s) :
    P (l.foldl f s) := by
  induction l generalizing s with
  | nil => exact h
  | cons x rest ih => exact ih (hf s x h)

variable (K : Kept P)

/-! ### Ops -/

include K

theorem setPort (i p) (h : P s) : P (s.setPort i p) := K.frame s _ rfl rfl rfl rfl h
theorem setLine (i p) (h : P s) : P (s.setLine i p) := K.frame s _ rfl rfl rfl rfl h
theorem setOutput (i p) (h : P s) : P (s.setOutput i p) := K.frame s _ rfl rfl rfl rfl h
theorem setInput (i p) (h : P s) : P (s.setInput i p) := K.frame s _ rfl rfl rfl rfl h
theorem setDevice (i p) (h : P s) : P (s.setDevice i p) := K.frame s _ rfl rfl rfl rfl h
theorem setRun (i p) (h : P s) : P (s.setRun i p) := K.frame s _ rfl rfl rfl rfl h
theorem setMark (i p) (h : P s) : P (s.setMark i p) := K.frame s _ rfl rfl rfl rfl h
theorem setGroup (i p) (h : P s) : P (s.setGroup i p) := K.frame s _ rfl rfl rfl rfl h
theorem setScanner (x) (h : P s) : P (s.setScanner x) := K.frame s _ rfl rfl rfl rfl h
theorem setWriter (w) (h : P s) : P (s.setWriter w) := K.frame s _ rfl rfl rfl rfl h
theorem setPins (p) (h : P s) : P (s.setPins p) := K.frame s _ rfl rfl rfl rfl h
theorem setHold (x) (h : P s) : P (s.setHold x) := K.frame s _ rfl rfl rfl rfl h
theorem setOwed (x) (h : P s) : P (s.setOwed x) := K.frame s _ rfl rfl rfl rfl h

/-- A change of the clock that leaves the items of its soundness as they are. -/
theorem setClockSame (c : Clock) (h : P s) (hr : c.rate = s.clock.rate) (hs : c.slew = s.clock.slew)
    (hc : c.correction = s.clock.correction) (ht : c.tick = s.clock.tick) (hp : c.phase = s.clock.phase)
    (hq : c.pendingTune = s.clock.pendingTune) : P (s.setClock c) := by
  refine K.clock s c ?_ h
  unfold Clock.sound
  rw [hr, hs, hc, ht, hp, hq]
  exact id

theorem putWords (ws : List Word) (a : Nat) (h : P s) : P (s.putWords a ws) := by
  induction ws generalizing s a with
  | nil => exact h
  | cons w rest ih => exact ih (s := s.putWord a w) (a + 1) (K.word s a w h)

theorem putSlotState (n : SlotId) (w : Word) (h : P s) : P (s.putSlotState n w) := K.word s _ _ h

theorem countDrop (h : P s) : P s.countDrop := by
  unfold State.countDrop
  split
  · exact K.word _ _ _ (K.setWriter _ h)
  · exact K.setWriter _ h

theorem acceptReport (r : Report) (h : P s) : P (s.acceptReport r) := by
  unfold State.acceptReport
  dsimp only
  split
  · exact K.setWriter _ h
  · exact K.countDrop (K.setWriter _ h)

theorem acceptCompletion (c : Completion) (h : P s) : P (s.acceptCompletion c) := K.setWriter _ h

theorem handReport (r : Report) (h : P s) : P (s.handReport r) := by
  unfold State.handReport
  split
  · exact K.acceptReport r h
  · split
    · exact K.setWriter _ h
    · exact K.countDrop h

theorem handCompletion (c : Completion) (h : P s) : P (s.handCompletion c) := by
  unfold State.handCompletion
  split
  · exact K.acceptCompletion c h
  · exact K.setWriter _ h

theorem report (u b) (h : P s) : P (s.report u b) := K.handReport _ h

theorem noticeTakes (p f) (h : P s) : P (s.noticeTakes p f) := K.frame s _ rfl rfl rfl rfl h
theorem suspectNotice (d) (h : P s) : P (s.suspectNotice d) := K.noticeTakes _ _ h
theorem jammedNotice (x) (h : P s) : P (s.jammedNotice x) := K.noticeTakes _ _ h
theorem unlockedNotice (h : P s) : P s.unlockedNotice := K.noticeTakes _ _ h
theorem rateNotice (h : P s) : P s.rateNotice := K.noticeTakes _ _ h

theorem changeClock (new cause v) (h : P s) : P (s.changeClock new cause v) := by
  unfold State.changeClock
  exact K.report _ _ (K.setOwed _ (K.setWriter _ (K.setClockSame _ h rfl rfl rfl rfl rfl rfl)))

theorem giveUnlocked (h : P s) : P s.giveUnlocked := by
  unfold State.giveUnlocked
  split
  · exact K.setOwed _ (K.unlockedNotice h)
  · exact h

theorem moveDevice (d prev r reason offset extra) (h : P s) : P (s.moveDevice d prev r reason offset extra) := by
  unfold State.moveDevice
  have h1 := K.report false (.deviceState d (some prev) (some r.state) reason r.strikes offset extra)
    (K.setDevice d (some r) h)
  dsimp only
  split
  · exact K.suspectNotice _ h1
  · exact h1

/-! ### The Jam Controller -/

theorem requestBurst {o : OutputId} {t : State} (h : P s) (ht : s.requestBurst o = some t) : P t := by
  unfold State.requestBurst at ht
  dsimp only at ht
  split at ht
  · cases ht
    exact K.setOutput _ _ h
  · cases ht

theorem startRun (o origin) (h : P s) : P (s.startRun o origin) := K.setRun _ _ h

theorem autoCheck (o : OutputId) (h : P s) : P (State.autoCheck o s) := by
  unfold State.autoCheck
  split
  · split
    · next t ht => exact K.startRun _ _ (K.requestBurst h ht)
    · exact h
  · exact h

theorem autoCheckAll (h : P s) : P s.autoCheckAll := forEach 4 (fun _ _ => K.autoCheck _) h

theorem boundaryCheck (h : P s) : P s.boundaryCheck := by
  unfold State.boundaryCheck
  split
  · exact K.autoCheckAll h
  · exact h

theorem checkOwed (h : P s) : P s.checkOwed := by
  unfold State.checkOwed
  split
  · exact K.boundaryCheck (K.setOwed _ h)
  · exact h

theorem failListener (d : DeviceId) (h : P s) : P (State.failListener d s) := by
  unfold State.failListener
  split
  · exact h
  · split
    · exact K.moveDevice _ _ _ _ _ _ h
    · exact K.setDevice _ _ h

theorem failWaiting (x : DeviceSet) (h : P s) : P (State.failWaiting x s) := by
  unfold State.failWaiting
  refine forEach 16 (fun d s hs => ?_) h
  split
  · exact K.failListener d hs
  · exact hs

theorem endRun (o : OutputId) (cause : RunCause) (h : P s) : P (State.endRun o cause s) := by
  unfold State.endRun
  split
  · exact h
  · next r _ =>
    dsimp only
    refine K.autoCheck _ (K.setRun _ _ ?_)
    have h1 := K.report (decide (r.failed ||| r.waiting ≠ 0))
      (.jamResult o r.origin cause r.attempts r.ok (r.failed ||| r.waiting) r.blind) (K.failWaiting r.waiting h)
    split
    · exact K.handCompletion _ h1
    · exact h1

theorem enterJamming (d : DeviceId) (h : P s) : P (State.enterJamming d s) := by
  unfold State.enterJamming
  split
  · exact h
  · split
    · exact h
    · exact K.moveDevice _ _ _ _ _ _ h

theorem burstBegun (o : OutputId) (h : P s) : P (State.burstBegun o s) := by
  unfold State.burstBegun
  split
  · exact h
  · dsimp only
    refine K.jammedNotice _ (forEach 16 (fun d s hs => ?_) (K.setRun _ _ h))
    split
    · exact K.enterJamming d hs
    · exact hs

theorem burstEnd (o : OutputId) (h : P s) : P (State.burstEnd o s) := by
  unfold State.burstEnd
  split
  · exact h
  · split
    · exact K.endRun _ _ h
    · exact K.setRun _ _ h

theorem leaveRun (d : DeviceId) (o : OutputId) (h : P s) : P (State.leaveRun d o s) := by
  unfold State.leaveRun
  split
  · exact h
  · split
    · dsimp only
      split
      · exact K.endRun _ _ (K.setRun _ _ h)
      · exact K.setRun _ _ h
    · exact h

theorem leaveNotice (d : DeviceId) (h : P s) : P (State.leaveNotice d s) := forEach 4 (fun _ _ => K.leaveRun d _) h

theorem jamWord (d : DeviceId) (v : Option Int) (h : P s) : P (State.jamWord d v s) := by
  unfold State.jamWord
  split
  · split
    · exact h
    · split
      · exact h
      · split
        · dsimp only
          split
          · exact K.endRun _ _ (K.moveDevice _ _ _ _ _ _ (K.setRun _ _ h))
          · exact K.moveDevice _ _ _ _ _ _ (K.setRun _ _ h)
        · exact h
  · exact h

theorem verifyExpiry (o : OutputId) (h : P s) : P (State.verifyExpiry o s) := by
  unfold State.verifyExpiry
  split
  · exact h
  · split
    · split
      · next t ht => exact K.setRun _ _ (K.requestBurst h ht)
      · exact K.endRun _ _ h
    · exact K.endRun _ _ h

/-! ### The Take Table and the mark inputs -/

theorem openTake (g opener tag) (h : P s) : P (s.openTake g opener tag) := K.report _ _ (K.setGroup _ _ h)
theorem placeMark (g m) (h : P s) : P (s.placeMark g m) := K.setGroup _ _ h

theorem closeTake (g closer) (h : P s) : P (s.closeTake g closer) := by
  unfold State.closeTake
  split
  · exact h
  · exact K.autoCheckAll (K.report _ _ (K.setGroup _ _ h))

theorem reArm (i : MarkId) (h : P s) : P (State.reArm i s) := K.setMark _ _ h

theorem quietCount (i kind placed stored) (h : P s) : P (s.quietCount i kind placed stored) := by
  unfold State.quietCount
  dsimp only
  split
  · exact K.setMark _ _ h
  · exact K.setMark _ _ (K.report _ _ h)

theorem strayMark (i kind t) (h : P s) : P (s.strayMark i kind t) := K.report _ _ h
theorem landMark (i g kind) (h : P s) : P (s.landMark i g kind) := K.quietCount _ _ _ _ (K.placeMark _ _ h)

theorem groupMark (i g kind) (h : P s) : P (s.groupMark i g kind) := by
  unfold State.groupMark
  split
  · exact K.landMark _ _ _ h
  · exact K.strayMark _ _ _ h

theorem tallyMark (i d kind) (h : P s) : P (s.tallyMark i d kind) := by
  unfold State.tallyMark
  dsimp only
  split
  · exact K.strayMark _ _ _ h
  · exact K.quietCount _ _ _ _ (K.noticeTakes _ _ h)

theorem captured (i rise) (h : P s) : P (s.captured i rise) := by
  unfold State.captured
  split
  · exact h
  · split
    · exact K.landMark _ _ _ h
    · exact K.openTake _ _ _ h
  · split
    · exact K.closeTake _ _ (K.placeMark _ _ h)
    · exact K.strayMark _ _ _ h
  · exact K.groupMark _ _ _ h
  · exact K.groupMark _ _ _ h
  · exact K.tallyMark _ _ _ h

theorem fireLatch (i) (h : P s) : P (s.fireLatch i) := K.setMark _ _ h

theorem markEdge (i rise) (h : P s) : P (State.markEdge i rise s) := by
  unfold State.markEdge
  dsimp only
  split
  · exact h
  · split
    · exact h
    · split
      · exact h
      · split
        · exact h
        · split
          · exact K.setMark _ _ h
          · exact K.captured _ _ (K.fireLatch _ h)

/-! ### The Device Roster and the time word inputs -/

theorem hardBreach (d v l) (h : P s) : P (State.hardBreach d v l s) := by
  unfold State.hardBreach
  split
  · exact h
  · split
    · exact K.setDevice _ _ h
    · exact K.report _ _ (K.setDevice _ _ h)

theorem enterAdrift (d x v l) (h : P s) : P (State.enterAdrift d x v l s) :=
  K.hardBreach _ _ _ (K.moveDevice _ _ _ _ _ _ h)

theorem wantedNotice (x) (h : P s) : P (State.wantedNotice x s) := by
  unfold State.wantedNotice
  split
  · exact K.autoCheck _ h
  · exact h

theorem judgeStrike (d x v) (h : P s) : P (State.judgeStrike d x v s) := by
  unfold State.judgeStrike
  split
  · split
    · exact K.setDevice _ _ h
    · dsimp only
      split
      · exact K.wantedNotice _ (K.report _ _ (K.setDevice _ _ h))
      · exact K.report _ _ (K.setDevice _ _ h)
  · exact K.setDevice _ _ h

theorem acquiringWord (d x v l) (h : P s) : P (State.acquiringWord d x v l s) := by
  unfold State.acquiringWord
  dsimp only
  generalize (if isJump s.clock.rate x.lastOffset v = true then 1 else x.validRun + 1) = run
  split
  · exact K.setDevice _ _ h
  · split
    · exact K.moveDevice _ _ _ _ _ _ h
    · exact K.enterAdrift _ _ _ _ h

theorem trackingWord (d x v l) (h : P s) : P (State.trackingWord d x v l s) := by
  unfold State.trackingWord
  split
  · exact K.enterAdrift _ _ _ _ h
  · split
    · exact K.judgeStrike _ _ _ (K.moveDevice _ _ _ _ _ _ h)
    · exact K.judgeStrike _ _ _ h

theorem adriftWord (d x v l) (h : P s) : P (State.adriftWord d x v l s) := by
  unfold State.adriftWord
  split
  · exact K.hardBreach _ _ _ (K.setDevice _ _ h)
  · split
    · exact K.setDevice _ _ h
    · split
      · exact K.setDevice _ _ h
      · exact K.moveDevice _ _ _ _ _ _ h

theorem otherRate (d x r) (h : P s) : P (State.otherRate d x r s) := by
  unfold State.otherRate
  split
  · exact K.setDevice _ _ h
  · exact K.moveDevice _ _ _ _ _ _ h

theorem firstWord (d x v) (h : P s) : P (State.firstWord d x v s) := K.moveDevice _ _ _ _ _ _ h

theorem rosterWord (d w delay) (h : P s) : P (State.rosterWord d w delay s) := by
  unfold State.rosterWord
  split
  · exact h
  · split
    · exact h
    · dsimp only
      split
      · exact K.jamWord _ _ (K.setDevice _ _ h)
      all_goals
        split
        · first
          | exact K.firstWord _ _ _ h
          | exact K.acquiringWord _ _ _ _ h
          | exact K.trackingWord _ _ _ _ h
          | exact K.adriftWord _ _ _ _ h
        · exact K.otherRate _ _ _ h

theorem countSilence (h : P s) : P s.countSilence := K.frame s _ rfl rfl rfl rfl h

theorem counted (h : P s) : P s.counted := by
  unfold State.counted
  split
  · exact K.setOwed _ (K.countSilence h)
  · exact h

theorem enterSilent (d : DeviceId) (h : P s) : P (State.enterSilent d s) := by
  unfold State.enterSilent
  have h1 := K.counted h
  dsimp only
  split
  · exact h1
  · exact K.moveDevice _ _ _ _ _ _ h1

theorem closeSilences (h : P s) : P s.closeSilences := by
  unfold State.closeSilences
  refine forEach 16 (fun d s hs => ?_) h
  split
  · exact K.enterSilent d hs
  · exact hs

theorem rosterFirst (h : P s) : P s.rosterFirst := by
  unfold State.rosterFirst
  split
  · exact h
  · exact K.closeSilences h

theorem startDevice (d : DeviceId) (h : P s) : P (State.startDevice d s) := by
  unfold State.startDevice
  split
  · exact h
  · split
    · exact K.setDevice _ _ h
    · exact K.moveDevice _ _ _ _ _ _ h

theorem wordArrival (i : InputId) (h : P s) : P (State.wordArrival i s) := by
  unfold State.wordArrival
  dsimp only
  split
  · exact K.setInput _ _ h
  · split
    · exact K.rosterWord _ _ _ (K.rosterFirst (K.setInput _ _ h))
    · exact K.setInput _ _ h

theorem stepInputs (h : P s) : P s.stepInputs := K.frame s _ rfl rfl rfl rfl h

/-! ### Ports, lines and outputs -/

theorem applyPort (cause i) (h : P s) : P (State.applyPort cause i s) :=
  K.rateNotice (K.report _ _ (K.setPort _ _ h))
theorem unitEvent (i) (h : P s) : P (State.unitEvent i s) := K.setPort _ _ h
theorem endPulse (i) (h : P s) : P (State.endPulse i s) := K.setPort _ _ h

theorem startPort (i) (h : P s) : P (State.startPort i s) := by
  unfold State.startPort
  split
  · exact h
  · split
    · exact K.report _ _ (K.setPort _ _ h)
    · exact K.report _ _ (K.setPort _ _ h)

theorem stepPort (i) (h : P s) : P (State.stepPort i s) := by
  unfold State.stepPort
  have h1 : P (if s.ports[i].active.isSome then s.setPort i (s.ports[i].anchorAt s.frame) else s) := by
    split
    · exact K.setPort _ _ h
    · exact h
  dsimp only
  generalize (if s.ports[i].active.isSome then s.setPort i (s.ports[i].anchorAt s.frame) else s) = t at h1 ⊢
  split
  · exact K.applyPort _ _ h1
  · exact h1

theorem tallyPulseEnd (i) (h : P s) : P (State.tallyPulseEnd i s) := K.setLine _ _ h
theorem actLine (i a) (h : P s) : P (s.actLine i a) := K.setLine _ _ h

theorem finishWord (o) (h : P s) : P (State.finishWord o s) := by
  unfold State.finishWord
  dsimp only
  split
  · exact K.burstEnd _ (K.setOutput _ _ h)
  · exact K.setOutput _ _ h

theorem advanceOutput (o) (h : P s) : P (State.advanceOutput o s) := by
  unfold State.advanceOutput
  dsimp only
  generalize (if s.outputs[o].requestStarts s.frame = true then s.outputs[o].startBurst
    else s.outputs[o].nextState) = y
  split
  · exact K.endRun _ _ (K.setOutput _ _ h)
  · split
    · exact K.burstBegun _ (K.rosterFirst (K.setOutput _ _ h))
    · exact K.setOutput _ _ h

theorem beginWord (o) (h : P s) : P (State.beginWord o s) := by
  unfold State.beginWord
  dsimp only
  split
  · exact K.setOutput _ _ h
  · exact K.setOutput _ _ h

theorem settleOutput (o) (h : P s) : P (State.settleOutput o s) := K.setOutput _ _ h

theorem wordBoundary (o) (h : P s) : P (State.wordBoundary o s) :=
  K.beginWord _ (K.advanceOutput _ (K.settleOutput _ (K.finishWord _ h)))

theorem stepOutput (o) (h : P s) : P (State.stepOutput o s) := K.wordBoundary _ (K.setOutput _ _ h)

theorem cellStart (o) (h : P s) : P (State.cellStart o s) := by
  unfold State.cellStart
  dsimp only
  split
  · exact K.setOutput _ _ h
  · exact h

theorem stepBlocks (h : P s) : P s.stepBlocks :=
  forEach 4 (fun _ _ => K.stepOutput _) (forEach 12 (fun _ _ => K.stepPort _) (K.stepInputs h))

/-! ### The scanner's requests and the Report Writer -/

theorem scanRequest (h : P s) : P s.scanRequest := by
  unfold State.scanRequest
  split
  · exact K.setScanner _ h
  · exact K.setScanner _ h

theorem writeMirror (h : P s) : P s.writeMirror := by
  unfold State.writeMirror
  split
  · exact K.word _ _ _ (K.word _ _ _ (K.word _ _ _ h))
  · exact h

theorem writeRecord (r) (h : P s) : P (State.writeRecord r s) := by
  unfold State.writeRecord
  exact K.word _ _ _ (K.setWriter _ (K.putWords _ _ h))

theorem writeGap (h : P s) : P s.writeGap := by
  unfold State.writeGap
  split
  · exact K.setWriter _ (K.writeRecord _ h)
  · exact h

theorem placeReport (r) (h : P s) : P (State.placeReport r s) := by
  unfold State.placeReport
  dsimp only
  split
  · exact K.writeRecord _ (K.writeGap h)
  · exact K.countDrop (K.writeGap h)

theorem writeReply (r) (h : P s) : P (State.writeReply r s) := by
  unfold State.writeReply
  split
  · exact h
  · exact K.putWords _ _ h

theorem placeCompletion (c) (h : P s) : P (State.placeCompletion c s) :=
  K.putSlotState _ _ (K.putWords _ _ (K.writeReply _ h))

theorem reportWrite (h : P s) : P s.reportWrite := by
  unfold State.reportWrite
  split
  · split
    · exact K.placeReport _ (K.setWriter _ h)
    · exact h
  · exact h

theorem completionWrite (h : P s) : P s.completionWrite := by
  unfold State.completionWrite
  split
  · split
    · exact K.placeCompletion _ (K.setWriter _ h)
    · exact h
  · exact h

theorem writeReadCount (v) (h : P s) : P (State.writeReadCount v s) := by
  unfold State.writeReadCount
  split
  · dsimp only
    split
    · exact K.word _ _ _ h
    · exact K.writeGap (K.word _ _ _ h)
  · exact h

theorem writeStore (a v) (h : P s) : P (State.writeStore a v s) := by
  unfold State.writeStore
  split
  · exact K.word _ _ _ h
  · exact h

theorem writeNudge (h : P s) : P s.writeNudge := by
  unfold State.writeNudge
  split
  · exact K.scanRequest h
  · exact h

theorem clearReasons (u c) (h : P s) : P (State.clearReasons u c s) := by
  unfold State.clearReasons
  split
  · exact K.setWriter _ h
  · exact h

theorem freeSlots (h : P s) : P s.freeSlots := forEach 64 (fun _ _ => K.putSlotState _ _) h

theorem initStore (h : P s) : P s.initStore := by
  unfold State.initStore
  split
  · exact K.putWords _ _ (K.empty _ h)
  · exact K.putWords _ _ (K.freeSlots h)

theorem acceptItem (i : QueueItem) (h : P s) : P (s.acceptItem i) := by
  unfold State.acceptItem
  split
  · exact K.acceptReport _ h
  · exact K.acceptCompletion _ h

theorem acceptKept (h : P s) : P s.acceptKept :=
  foldl (fun _ _ => K.acceptItem _) _ (foldl (fun _ _ => K.acceptReport _) _ (K.setWriter _ h))

theorem beginPendingScan (h : P s) : P s.beginPendingScan := by
  unfold State.beginPendingScan
  split
  · exact K.setScanner _ h
  · exact h

theorem opened (b : Bus) (h : P s) : P { s with bus := b } := K.frame s _ rfl rfl rfl rfl h

theorem initialisationEnd (h : P s) : P s.initialisationEnd := by
  unfold State.initialisationEnd
  have h1 := K.initStore h
  generalize s.initStore = t at h1 ⊢
  exact K.beginPendingScan (K.setScanner _ (K.acceptKept (K.opened _ h1)))

theorem idleExpiry (h : P s) : P s.idleExpiry := K.scanRequest (K.setScanner _ h)

theorem softReset (h : P s) : P s.softReset :=
  K.frame (s.setSchedule []) _ rfl rfl rfl rfl (K.drop s [] (List.nil_sublist _) h)

theorem writeReset (v) (h : P s) : P (State.writeReset v s) := by
  unfold State.writeReset
  split
  · exact K.softReset h
  · exact h

theorem beginReset (h : P s) : P s.beginReset := by
  have h1 := K.empty _ (K.drop _ [] (List.nil_sublist _) (K.clock s Clock.reset (fun _ => Clock.sound_reset) h))
  refine K.frame _ _ ?_ ?_ ?_ ?_ h1 <;> rfl

theorem hostWrite (a v) (h : P s) : P (State.hostWrite a v s) := by
  unfold State.hostWrite
  dsimp only
  split
  · exact K.writeReadCount _ h
  · split
    · exact K.writeStore _ _ h
    · split
      · exact K.clearReasons _ _ h
      · split
        · exact K.writeNudge h
        · split
          · exact K.writeReset _ h
          · exact h

end Kept

end Sys2Proof.Machine
end

