-- ==== Sys2Proof/Laws/KeptClock.lean ====
section
/-! SUPPORT. The operations of the Picture Clock, the owners and the passing of time keep what `Kept` properties say. -/

namespace Sys2Proof.Machine

open State

/-! ## The clock's soundness -/

theorem rateTicks_ge (r : Nat) : 450000 ≤ rateTicks r := by
  unfold rateTicks
  split <;> decide

theorem natAbs_saturate (m : Nat) (x : Int) : (saturate m x).natAbs ≤ m := by
  unfold saturate
  omega

theorem Clock.sound_settle {c : Clock} (h : c.sound) : c.settle.sound := by
  obtain ⟨h1, h2, h3, h4, h5, h6⟩ := h
  refine ⟨h1, h2, ?_, h4, h5, h6⟩
  have key : ∀ x : Int, (saturate c.slew x).natAbs ≤ 255 := fun x =>
    (natAbs_saturate c.slew x).trans h2.2
  show c.nextCorrection.natAbs ≤ 255
  unfold Clock.nextCorrection
  split
  · decide
  · decide
  · exact key _
  · exact key _
  · exact key _

theorem Clock.sound_advance {c : Clock} (h : c.sound) : c.advance.sound := by
  obtain ⟨h1, h2, h3, h4, h5, h6⟩ := h
  refine ⟨h1, h2, h3, ?_, fun hp => by simp [Clock.advance] at hp, h6⟩
  have := rateTicks_ge c.rate
  show 0 < rateTicks c.rate
  omega

theorem Clock.sound_tuned {c : Clock} {t : Tune} (ht : c.pendingTune = some t) (h : c.sound) : (c.tuned t).sound := by
  obtain ⟨h1, h2, h3, h4, h5, h6⟩ := h
  exact ⟨h1, h6 t ht, h3, h4, h5, fun x hx => by simp [Clock.tuned] at hx⟩

theorem Clock.sound_unreferenced {c : Clock} (h : c.sound) : c.unreferenced.sound := h

theorem Clock.sound_halted {c : Clock} {n : Nat} (hn : n ≤ c.tick) (h : c.sound) :
    Clock.sound { c.halted with tick := n } := by
  obtain ⟨h1, h2, h3, h4, h5, h6⟩ := h
  exact ⟨h1, h2, by simp [Clock.halted], Nat.lt_of_le_of_lt hn h4, fun hp => by simp [Clock.halted] at hp,
    fun x hx => by simp [Clock.halted] at hx⟩

/-- A start setting in its ranges (R5). -/
def StartSetting.inRange (x : StartSetting) : Prop :=
  x.rate ≤ 10 ∧ ∀ t, x.tune = some t → 1 ≤ t.slew ∧ t.slew ≤ 255

theorem readRange_some {lo hi n : Nat} {w : Word} (h : readRange lo hi w = some n) :
    n = w.toNat ∧ lo ≤ n ∧ n ≤ hi := by
  unfold readRange at h
  split at h
  · next hw =>
    cases h
    exact ⟨rfl, hw⟩
  · cases h

theorem readTune_some {a b c d e : Word} {t : Tune} (h : readTune a b c d e = some t) : 1 ≤ t.slew ∧ t.slew ≤ 255 := by
  unfold readTune at h
  simp only [Option.bind_eq_bind, Option.bind_eq_some_iff, Option.pure_def, Option.some.injEq] at h
  obtain ⟨l, hl, _, _, _, _, _, _, _, _, rfl⟩ := h
  exact (readRange_some hl).2

theorem readStart_some {a : ClockStartArgs} {x : StartSetting} (h : readStart a = some x) : x.inRange := by
  unfold readStart at h
  simp only [Option.bind_eq_bind, Option.bind_eq_some_iff, Option.pure_def] at h
  obtain ⟨rate, hr, h⟩ := h
  split at h
  · simp only [Option.bind_eq_some_iff] at h
    obtain ⟨r, _, p, _, c, _, h⟩ := h
    split at h
    · simp only [Option.bind_eq_some_iff, Option.some.injEq] at h
      obtain ⟨t, ht, rfl⟩ := h
      exact ⟨(readRange_some hr).2.2, fun u hu => by cases hu; exact readTune_some ht⟩
    · cases h
      exact ⟨(readRange_some hr).2.2, fun u hu => by cases hu⟩
  · cases h

theorem Clock.sound_started {c : Clock} {x : StartSetting} (hx : x.inRange) (h : c.sound) : (c.started x).sound := by
  obtain ⟨h1, h2, h3, h4, h5, h6⟩ := h
  obtain ⟨hr, ht⟩ := hx
  refine ⟨hr, ?_, by simp [Clock.started], ?_, fun hp => by simp [Clock.started] at hp,
    fun x hx => by simp [Clock.started] at hx⟩
  · show 1 ≤ (x.tune.map (·.slew)).getD c.slew ∧ (x.tune.map (·.slew)).getD c.slew ≤ 255
    cases hxt : x.tune with
    | none => exact h2
    | some t => exact ht t hxt
  · have := rateTicks_ge x.rate
    show 0 < rateTicks x.rate
    omega

/-- R14: the changes of a frame fall well before its last tick. -/
theorem changeTick_lt {m : Nat} {c : Int} {t : Nat} (hm : 450000 ≤ m) (hc : c.natAbs ≤ 255)
    (h : isChangeTick m c t = true) : t + 882 ≤ m := by
  unfold isChangeTick at h
  rw [List.any_eq_true] at h
  obtain ⟨k, hk, h⟩ := h
  rw [List.mem_range] at hk
  rw [beq_iff_eq] at h
  subst h
  generalize c.natAbs = n at hk hc ⊢
  have h1 : (2 * k + 1) * m ≤ (2 * n - 1) * m := Nat.mul_le_mul_right m (by omega)
  have h2 : (2 * n - 1) * m / (2 * n) + 882 ≤ m := by
    have h3 : (2 * n - 1) * m + 882 * (2 * n) ≤ m * (2 * n) := by
      have : 882 * (2 * n) ≤ m := by omega
      have e : m * (2 * n) = (2 * n - 1) * m + m := by
        obtain ⟨j, hj⟩ : ∃ j, 2 * n = j + 1 := ⟨2 * n - 1, by omega⟩
        rw [hj, Nat.add_sub_cancel]
        ring
      omega
    calc (2 * n - 1) * m / (2 * n) + 882 = ((2 * n - 1) * m + 882 * (2 * n)) / (2 * n) := by
          rw [Nat.add_mul_div_right _ _ (by omega)]
      _ ≤ m * (2 * n) / (2 * n) := Nat.div_le_div_right h3
      _ = m := Nat.mul_div_cancel _ (by omega)
  have h4 : (2 * k + 1) * m / (2 * n) ≤ (2 * n - 1) * m / (2 * n) := Nat.div_le_div_right h1
  omega

@[simp] theorem refuse_fst (code : ResultCode) (s : State) : (refuse code s).1 = s := rfl
@[simp] theorem acceptWith_fst (r : Reply) (s : State) : (acceptWith r s).1 = s := rfl
@[simp] theorem accept_fst (s : State) : (accept s).1 = s := rfl

theorem here_tick_le (s : State) : s.here.tick ≤ s.clock.tick := by
  unfold State.here
  dsimp only
  split <;> omega

namespace Kept

variable {P : State → Prop} {s : State} (K : Kept P)

include K

theorem settleClock (h : P s) : P s.settleClock := K.writeMirror (K.clock _ _ Clock.sound_settle h)

theorem applyTune (h : P s) : P s.applyTune := by
  unfold State.applyTune
  split
  · exact h
  · next t ht =>
    have h1 := K.clock s (s.clock.tuned t) (Clock.sound_tuned ht) h
    dsimp only
    split
    · split
      · exact h1
      · exact K.changeClock _ _ _ (K.clock _ _ Clock.sound_unreferenced h1)
    · split
      · exact K.changeClock _ _ _ (K.setClockSame _ h1 rfl rfl rfl rfl rfl rfl)
      · exact h1

theorem clockBoundary (h : P s) : P s.clockBoundary := by
  unfold State.clockBoundary
  have h1 := K.setClockSame (s := s.applyTune) s.applyTune.clock.judge (K.applyTune h) rfl rfl rfl rfl rfl rfl
  dsimp only
  split
  · exact K.setClockSame _ h1 rfl rfl rfl rfl rfl rfl
  · exact K.settleClock h1

theorem leaveMissing (h : P s) : P s.leaveMissing := by
  unfold State.leaveMissing
  split
  · exact K.settleClock (K.changeClock _ _ _ (K.setClockSame _ h rfl rfl rfl rfl rfl rfl))
  · exact K.settleClock (K.changeClock _ _ _ (K.setClockSame _ h rfl rfl rfl rfl rfl rfl))

theorem hrefMissing (h : P s) : P s.hrefMissing := K.giveUnlocked (K.leaveMissing h)

theorem holdoverExpiry (h : P s) : P s.holdoverExpiry :=
  K.settleClock (K.changeClock _ _ _ (K.setClockSame _ h rfl rfl rfl rfl rfl rfl))

theorem closeClock (h : P s) : P s.closeClock := by
  unfold State.closeClock
  split
  · exact K.leaveMissing h
  · split
    · exact K.holdoverExpiry h
    · exact h

theorem countPulses (h : P s) : P s.countPulses := K.frame s _ rfl rfl rfl rfl h
theorem countPorts (h : P s) : P s.countPorts := K.frame s _ rfl rfl rfl rfl h
theorem boundaryLines (h : P s) : P s.boundaryLines := K.frame s _ rfl rfl rfl rfl h
theorem countOutputs (h : P s) : P s.countOutputs := K.frame s _ rfl rfl rfl rfl h
theorem armLatches (h : P s) : P s.armLatches := K.frame s _ rfl rfl rfl rfl h

theorem boundaryRest (h : P s) : P s.boundaryRest := K.scanRequest (K.setOwed _ h)
theorem finishOwed (h : P s) : P s.finishOwed := K.checkOwed (K.counted (K.giveUnlocked h))

theorem passBoundary (h : P s) : P s.passBoundary :=
  K.boundaryRest (K.countOutputs (K.countPorts (K.boundaryLines (K.clockBoundary
    (K.clock s.countPulses s.clock.advance Clock.sound_advance (K.countPulses h))))))

theorem lockArrival (e) (h : P s) : P (s.lockArrival e) := by
  unfold State.lockArrival
  dsimp only
  split
  · split
    · exact K.setClockSame _ h rfl rfl rfl rfl rfl rfl
    · split
      · exact K.setClockSame _ h rfl rfl rfl rfl rfl rfl
      · exact K.changeClock _ _ _ (K.setClockSame _ h rfl rfl rfl rfl rfl rfl)
  · split
    · exact K.setClockSame _ h rfl rfl rfl rfl rfl rfl
    · split
      · exact K.setClockSame _ h rfl rfl rfl rfl rfl rfl
      · exact K.giveUnlocked (K.changeClock _ _ _ (K.setClockSame _ h rfl rfl rfl rfl rfl rfl))

theorem crashLock (e) (h : P s) : P (s.crashLock e) := by
  unfold State.crashLock
  have h1 := K.lockArrival 0 h
  generalize s.lockArrival 0 = t at h1 ⊢
  exact K.boundaryRest (K.stepBlocks (K.boundaryLines (K.report _ _ (K.clockBoundary
    (K.clock t t.clock.advance Clock.sound_advance h1)))))

theorem beginLocking (h : P s) : P s.beginLocking := by
  unfold State.beginLocking
  split
  · exact K.changeClock _ _ _ (K.setClockSame _ h rfl rfl rfl rfl rfl rfl)
  · exact h

theorem beginArrival (h : P s) : P s.beginArrival :=
  K.beginLocking (K.setClockSame { s.clock with arrived := true, missingRun := 0 } h rfl rfl rfl rfl rfl rfl)

theorem arrival (h : P s) : P s.arrival := by
  unfold State.arrival
  split
  · have h1 := K.beginArrival h
    dsimp only
    generalize s.beginArrival = u at h1 ⊢
    split
    · have h2 := K.setClockSame { u.clock with crashEligible := false } h1 rfl rfl rfl rfl rfl rfl
      split
      · exact K.crashLock _ h2
      · exact K.lockArrival _ h2
    · exact K.lockArrival _ h1
  · exact h

theorem startBlocks (h : P s) : P s.startBlocks :=
  forEach 16 (fun _ _ => K.startDevice _) (forEach 12 (fun _ _ => K.startPort _) h)
theorem startPins (h : P s) : P s.startPins := K.frame s _ rfl rfl rfl rfl h
theorem startRest (h : P s) : P s.startRest := K.scanRequest (K.setOwed _ (K.setScanner _ (K.armLatches h)))
theorem startReport (x : StartSetting) (hx : x.inRange) (h : P s) : P (s.startReport x) :=
  K.report _ _ (K.setWriter _ (K.clock s _ (Clock.sound_started hx) h))
theorem startClock (x : StartSetting) (hx : x.inRange) (h : P s) : P (s.startClock x) :=
  K.startRest (K.startPins (K.startBlocks (K.writeMirror (K.startReport x hx (K.closeSilences (K.counted h))))))

/-! ### Owners -/

theorem ownClockStart (a) (h : P s) : P (s.ownClockStart a).1 := by
  unfold State.ownClockStart
  split
  · exact h
  · split
    · exact h
    · next x hx =>
      rw [accept_fst]
      exact K.startClock x (readStart_some hx) h

theorem ownClockTune (a) (h : P s) : P (s.ownClockTune a).1 := by
  unfold State.ownClockTune
  split
  · exact h
  · split
    · exact h
    · next t ht =>
      refine K.clock s _ (fun hs => ?_) h
      exact ⟨hs.1, hs.2.1, hs.2.2.1, hs.2.2.2.1, hs.2.2.2.2.1, fun u hu => by cases hu; exact readTune_some ht⟩

theorem offerPort (i x w) (h : P s) : P (State.offerPort i x w s).1 := by
  unfold State.offerPort
  dsimp only
  split
  · exact h
  · exact K.setPort _ _ h

theorem ownPortSet (a) (h : P s) : P (s.ownPortSet a).1 := by
  unfold State.ownPortSet
  split
  · exact h
  · split
    · exact K.offerPort _ _ _ h
    · exact K.setPort _ _ h

theorem ownPortOff (p) (h : P s) : P (s.ownPortOff p).1 := by
  unfold State.ownPortOff
  split
  · exact h
  · split
    · exact K.offerPort _ _ _ h
    · exact K.setPort _ _ h

theorem ownTallySet (tk a) (h : P s) : P (s.ownTallySet tk a).1 := by
  unfold State.ownTallySet
  split
  · exact h
  · split
    · exact h
    · split
      · exact h
      · split
        · exact K.actLine _ _ h
        · exact K.setLine _ _ h

theorem beginBoundary (o : OutputId) (h : P s) : P (State.beginBoundary o s) := by
  unfold State.beginBoundary
  split
  · exact K.wordBoundary _ h
  · exact h

theorem ownOutputSet (a) (h : P s) : P (s.ownOutputSet a).1 := by
  unfold State.ownOutputSet
  split
  · exact h
  · dsimp only
    split
    · exact h
    · split
      · exact K.setOutput _ _ (K.beginBoundary _ h)
      · exact K.setOutput _ _ h

theorem ownUserTable (e) (h : P s) : P (s.ownUserTable e).1 := by
  unfold State.ownUserTable
  split
  · exact h
  · exact K.frame s _ rfl rfl rfl rfl h

theorem ownInputSet (a) (h : P s) : P (s.ownInputSet a).1 := by
  unfold State.ownInputSet
  split
  · exact h
  · exact K.setInput _ _ h

theorem bindDevice (d n) (h : P s) : P (State.bindDevice d n s) := forEach 8 (fun _ _ => K.setInput _ _) h

theorem ownDeviceEnrol (a) (h : P s) : P (s.ownDeviceEnrol a).1 := by
  unfold State.ownDeviceEnrol
  split
  · exact h
  · split
    · exact h
    · split
      · exact h
      · exact K.report _ _ (K.leaveNotice _ (K.bindDevice _ _ (K.setDevice _ _ (K.rosterFirst h))))

theorem ownDeviceDrop (d) (h : P s) : P (s.ownDeviceDrop d).1 := by
  unfold State.ownDeviceDrop
  split
  · exact h
  · dsimp only
    split
    · exact h
    · exact K.report _ _ (K.leaveNotice _ (K.bindDevice _ _ (K.setDevice _ _ (K.rosterFirst h))))

theorem ownFaultAck (d) (h : P s) : P (s.ownFaultAck d).1 := by
  unfold State.ownFaultAck
  split
  · exact h
  · split
    · exact h
    · exact K.setDevice _ _ h

theorem ownJam (tk a b) (h : P s) : P (s.ownJam tk a b).1 := by
  unfold State.ownJam
  split
  · exact h
  · split
    · exact h
    · split
      · exact h
      · split
        · exact h
        · next t ht =>
          dsimp only
          split
          · exact K.startRun _ _ (K.requestBurst h ht)
          · exact K.startRun _ _ (K.requestBurst h ht)

theorem ownMarkSet (a) (h : P s) : P (s.ownMarkSet a).1 := by
  unfold State.ownMarkSet
  split
  · exact h
  · split
    · exact h
    · exact K.setMark _ _ h

theorem ownGroupSet (a) (h : P s) : P (s.ownGroupSet a).1 := by
  unfold State.ownGroupSet
  split
  · exact h
  · exact K.setGroup _ _ h

theorem ownTakeOpen (tk a) (h : P s) : P (s.ownTakeOpen tk a).1 := by
  unfold State.ownTakeOpen
  split
  · exact h
  · split
    · exact h
    · split
      · exact h
      · exact K.openTake _ _ _ h

theorem ownTakeClose (tk g) (h : P s) : P (s.ownTakeClose tk g).1 := by
  unfold State.ownTakeClose
  split
  · exact h
  · split
    · exact h
    · exact K.closeTake _ _ h

theorem ownMarkInject (g k) (h : P s) : P (s.ownMarkInject g k).1 := by
  unfold State.ownMarkInject
  split
  · exact h
  · split
    · exact h
    · split
      · exact h
      · exact K.report _ _ (K.placeMark _ _ h)

theorem ownQueryClock (a c) (h : P s) : P (s.ownQueryClock a c).1 := by
  unfold State.ownQueryClock
  split
  · exact h
  · exact K.closeClock h

theorem ownQueryDevice (a) (h : P s) : P (s.ownQueryDevice a).1 := by
  unfold State.ownQueryDevice
  split
  · dsimp only
    split
    · exact h
    · split
      · exact K.rosterFirst h
      · exact K.setInput _ _ (K.rosterFirst h)
  · exact h

omit K in
theorem ownQueryTake (a) (h : P s) : P (s.ownQueryTake a).1 := by
  unfold State.ownQueryTake
  split
  · exact h
  · exact h

theorem ownQueryMark (a) (h : P s) : P (s.ownQueryMark a).1 := by
  unfold State.ownQueryMark
  split
  · exact K.setMark _ _ h
  · exact h

/-! ### The Schedule, where entries leave it -/

theorem removeEntry (n) (h : P s) : P (State.removeEntry n s) := K.drop s _ List.filter_sublist h

theorem loseEntry (e c) (h : P s) : P (State.loseEntry e c s) := K.report _ _ (K.removeEntry _ h)
theorem completeEntry (n c r) (h : P s) : P (State.completeEntry n c r s) := K.handCompletion _ h
theorem completeSlot (n c r x) (h : P s) : P (State.completeSlot n c r x s) := K.handCompletion _ h

theorem ownCancel (t) (h : P s) : P (s.ownCancel t).1 := by
  unfold State.ownCancel
  split
  · exact h
  · split
    · exact h
    · split
      · exact K.completeEntry _ _ _ (K.removeEntry _ h)
      · exact K.loseEntry _ _ h

theorem stopEntry (e) (h : P s) : P (State.stopEntry e s) := by
  unfold State.stopEntry
  split
  · exact K.completeEntry _ _ _ (K.removeEntry _ h)
  · exact K.loseEntry _ _ h

theorem stopSchedule (h : P s) : P s.stopSchedule := foldl (fun _ e => K.stopEntry e) _ h
theorem stopPins (h : P s) : P s.stopPins := K.frame s _ rfl rfl rfl rfl h
theorem stopRuns (h : P s) : P s.stopRuns := forEach 4 (fun _ _ => K.endRun _ _) h

theorem stopRunsBefore (n g) (h : P s) : P (State.stopRunsBefore n g s) :=
  forEach 4 (fun o s h => by
    split
    · exact K.endRun _ _ h
    · exact h) h
theorem stopUnlockedBefore (n g) (h : P s) : P (State.stopUnlockedBefore n g s) := by
  unfold State.stopUnlockedBefore
  split
  · exact K.giveUnlocked h
  · exact h

theorem stopTakes (n) (h : P s) : P (State.stopTakes n s) :=
  forEach 8 (fun g _ h => K.closeTake _ _ (K.stopUnlockedBefore n g (K.stopRunsBefore n g h))) h

theorem stopBlocks (n) (h : P s) : P (State.stopBlocks n s) :=
  K.stopRuns (K.stopSchedule (K.stopTakes n (K.stopPins h)))

theorem stopClock (h : P s) : P s.stopClock := by
  unfold State.stopClock
  have h0 := K.closeClock h
  dsimp only
  generalize s.closeClock = u at h0 ⊢
  have h1 := K.clock u { u.clock.halted with tick := u.here.tick } (Clock.sound_halted (here_tick_le u)) h0
  have h2 := K.giveUnlocked (K.stopBlocks s.uses.stops (K.writeMirror (K.changeClock .stopped .stop none h1)))
  generalize State.giveUnlocked (State.stopBlocks s.uses.stops _) = t at h2 ⊢
  exact K.frame t _ rfl rfl rfl rfl h2

theorem ownClockStop (h : P s) : P s.ownClockStop.1 := by
  unfold State.ownClockStop
  split
  · exact K.stopClock h
  · exact h

/-- Dispatching an order keeps the property. -/
theorem dispatch (tk o) (h : P s) : P (s.dispatch tk o).1 := by
  unfold State.dispatch
  split
  · exact K.ownClockStart _ h
  · exact K.ownClockTune _ h
  · exact K.ownClockStop h
  · exact K.ownPortSet _ h
  · exact K.ownPortOff _ h
  · exact K.ownTallySet _ _ h
  · exact K.ownOutputSet _ h
  · exact K.ownUserTable _ h
  · exact K.ownInputSet _ h
  · exact K.ownDeviceEnrol _ h
  · exact K.ownDeviceDrop _ h
  · exact K.ownFaultAck _ h
  · exact K.ownJam _ _ _ h
  · exact K.ownMarkSet _ h
  · exact K.ownGroupSet _ h
  · exact K.ownTakeOpen _ _ h
  · exact K.ownTakeClose _ _ h
  · exact K.ownMarkInject _ _ h
  · exact K.ownCancel _ h
  · exact K.ownQueryClock _ _ h
  · exact K.ownQueryDevice _ h
  · exact ownQueryTake _ h
  · exact K.ownQueryMark _ h

theorem carryOut (tk o) (h : P s) : P (State.carryOut tk o s) := by
  unfold State.carryOut
  have h1 := K.dispatch tk o h
  split
  · next hd => rw [hd] at h1; exact K.completeSlot _ _ _ _ h1
  · next hd => rw [hd] at h1; exact h1

/-! ### Picture ticks -/

theorem countTick (h : P s) : P s.countTick := K.frame s _ rfl rfl rfl rfl h

theorem nextPictureTick (hl : ¬ s.lastTick = true) (h : P s) : P s.nextPictureTick := by
  unfold State.nextPictureTick
  dsimp only
  refine K.clock s.countPulses _ (fun hs => ?_) (K.countPulses h)
  obtain ⟨h1, h2, h3, h4, h5, h6⟩ := hs
  have hlt : s.clock.tick + 1 < rateTicks s.clock.rate :=
    Nat.lt_of_not_le fun hle => hl (decide_eq_true hle)
  refine ⟨h1, h2, h3, hlt, fun hp => ?_, h6⟩
  show s.clock.tick + 1 + 1 < rateTicks s.clock.rate
  have hch : s.changesAt (s.clock.tick + 1) = true := by
    by_contra hn
    simp [hn] at hp
  have := changeTick_lt (rateTicks_ge s.clock.rate) h3 hch
  omega

theorem secondTick (hp : s.clock.phase = .early) (h : P s) : P s.secondTick := by
  unfold State.secondTick
  refine K.clock s.countPulses _ (fun hs => ?_) (K.countPulses h)
  exact ⟨hs.1, hs.2.1, hs.2.2.1, hs.2.2.2.2.1 hp, fun hq => by simp at hq, hs.2.2.2.2.2⟩

theorem advancePicture (h : P s) : P s.advancePicture := by
  unfold State.advancePicture
  split
  · exact h
  · split
    · refine K.clock s _ (fun hs => ?_) h
      exact ⟨hs.1, hs.2.1, hs.2.2.1, hs.2.2.2.1, fun hq => by simp at hq, hs.2.2.2.2.2⟩
    · split
      · exact K.passBoundary h
      · next hl => exact K.nextPictureTick hl h

theorem beginTick (h : P s) : P s.beginTick := K.advancePicture (K.countTick h)

end Kept

end Sys2Proof.Machine
end

