-- ==== Sys2Proof/Laws/KeptTime.lean ====
section
/-! SUPPORT. What a property must be closed under besides `Kept` to be kept where entries join the Schedule, and the
scanner, the firings and the passing of time that keep it. -/

namespace Sys2Proof.Machine

open State

/-- A `Kept` property that an entry's joining keeps too: a new one of a slot with none, with room for it, or one put
back in the place of the entry its slot had. -/
structure KeptAdd (P : State → Prop) : Prop extends Kept P where
  add : ∀ (s : State) e, (∀ x ∈ s.schedule, x.slot ≠ e.slot) → s.schedule.length < 32 → P s → P (addEntry e s)
  requeue : ∀ (s0 s : State) e, P s0 → (∃ x ∈ s0.schedule, x.slot = e.slot) →
    s.schedule.Sublist (s0.schedule.filter fun x => x.slot != e.slot) → P s → P (addEntry e s)

theorem keptAdd_storeSound : KeptAdd storeSound where
  toKept := kept_storeSound
  add _ _ _ _ h := h
  requeue _ _ _ _ _ _ h := h

theorem keptAdd_pictureSound : KeptAdd pictureSound where
  toKept := kept_pictureSound
  add _ _ _ _ h := h
  requeue _ _ _ _ _ _ h := h

theorem keptAdd_pending (q : List Instr) : KeptAdd fun s => s.pending = q where
  toKept := kept_pending q
  add _ _ _ _ h := h
  requeue _ _ _ _ _ _ h := h

/-- R150: an entry put in its place is one entry more. -/
theorem insertEntry_perm (now : FrameNo) (e : Entry) (es : List Entry) : (insertEntry now e es).Perm (e :: es) := by
  induction es with
  | nil => exact List.Perm.refl _
  | cons x rest ih =>
    unfold insertEntry
    split
    · exact List.Perm.refl _
    · exact (ih.cons x).trans (List.Perm.swap e x rest)

theorem scheduleSound_addEntry {s : State} {e : Entry} (hn : ∀ x ∈ s.schedule, x.slot ≠ e.slot)
    (hl : s.schedule.length < 32) (h : (s.schedule.map fun e => e.slot).Nodup) : (addEntry e s).scheduleSound := by
  have hp := insertEntry_perm s.frame e s.schedule
  constructor
  · show (insertEntry s.frame e s.schedule).length ≤ 32
    rw [hp.length_eq, List.length_cons]
    exact hl
  · show ((insertEntry s.frame e s.schedule).map fun e => e.slot).Nodup
    rw [(hp.map _).nodup_iff, List.map_cons, List.nodup_cons]
    refine ⟨fun hm => ?_, h⟩
    obtain ⟨x, hx, he⟩ := List.mem_map.mp hm
    exact hn x hx he

theorem keptAdd_scheduleSound : KeptAdd scheduleSound where
  frame s t _ h _ _ hs := by unfold scheduleSound at *; rw [h]; exact hs
  word s a w h := h
  empty s h := h
  clock s c _ h := h
  drop s es hs h := ⟨hs.length_le.trans h.1, h.2.sublist (hs.map _)⟩
  add s e hn hl h := scheduleSound_addEntry hn hl h.2
  requeue s0 s e h0 he hs h := by
    refine scheduleSound_addEntry (fun x hx hxe => ?_) ?_ h.2
    · have := List.mem_filter.mp (hs.subset hx)
      simp [hxe] at this
    · refine Nat.lt_of_le_of_lt hs.length_le (Nat.lt_of_lt_of_le ?_ h0.1)
      refine List.length_filter_lt_length_iff_exists.mpr ?_
      obtain ⟨x, hx, hxe⟩ := he
      exact ⟨x, hx, by simp [hxe]⟩

/-- A taken slot has no entry left. -/
theorem beginTake_schedule (n : SlotId) (s : State) : ∀ x ∈ (beginTake n s).schedule, x.slot ≠ n := by
  intro x hx
  have hx' : x ∈ (match s.entryOf n with
    | some e => loseEntry e .retaken s
    | none => s).schedule := hx
  split at hx'
  · next e he =>
    have hs : e.slot = n := by
      have := List.find?_some he
      simpa using this
    have hm : x ∈ s.schedule.filter fun x => x.slot != e.slot := by
      simpa [loseEntry, removeEntry] using hx'
    have := (List.mem_filter.mp hm).2
    rw [hs] at this
    simpa using this
  · next he =>
    have := List.find?_eq_none.mp he x hx'
    simpa using this

namespace KeptAdd

variable {P : State → Prop} {s : State} (K : KeptAdd P)

include K

theorem settleRepeat {s0 : State} (e : Entry) (r : Repeating) (h0 : P s0) (he : ∃ x ∈ s0.schedule, x.slot = e.slot)
    (hs : s.schedule.Sublist (s0.schedule.filter fun x => x.slot != e.slot)) (h : P s) :
    P (State.settleRepeat e r s) := by
  unfold State.settleRepeat
  split
  · exact K.completeEntry _ _ _ h
  · exact K.requeue s0 s _ h0 he hs h

theorem holdOrder (e : Entry) (hn : ∀ x ∈ s.schedule, x.slot ≠ e.slot) (h : P s) : P (State.holdOrder e s) := by
  unfold State.holdOrder
  split
  · exact K.completeSlot _ _ _ _ h
  · next hl => exact K.add _ _ hn (Nat.lt_of_not_le hl) (K.putSlotState _ _ h)

theorem takeLateRepeat (n t o l) (hn : ∀ x ∈ s.schedule, x.slot ≠ n) (h : P s) :
    P (State.takeLateRepeat n t o l s) := by
  unfold State.takeLateRepeat
  dsimp only
  generalize Repeating.passOver { Repeating.fresh t with late := decide (0 < l) } (l / t.interval.toNat) t.due = r
  split
  · exact K.completeEntry _ _ _ h
  · next h0 =>
    split
    · exact K.completeSlot _ _ _ _ h
    · next hl =>
      have h1 := K.dispatch { slot := n, fired := false, again := true, late := decide (0 < l) } o h
      have h2 := (kept_schedule s.schedule).dispatch
        { slot := n, fired := false, again := true, late := decide (0 < l) } o (List.Sublist.refl _)
      generalize s.dispatch { slot := n, fired := false, again := true, late := decide (0 < l) } o = d at h1 h2 ⊢
      obtain ⟨s', result⟩ := d
      dsimp only at h1 h2 ⊢
      unfold State.settleRepeat
      split
      · next hz =>
        exact K.completeEntry _ _ _ h1
      · next hz =>
        refine K.add _ _ (fun x hx => hn x (h2.subset hx)) ?_ (K.putSlotState _ _ h1)
        refine Nat.lt_of_le_of_lt h2.length_le (Nat.lt_of_not_le fun hle => hl ⟨fun h1' => hz ?_, hle⟩)
        simp [Repeating.count, h1']

theorem judgeOrder (n t o) (hn : ∀ x ∈ s.schedule, x.slot ≠ n) (h : P s) : P (State.judgeOrder n t o s) := by
  unfold State.judgeOrder
  split
  · exact K.completeSlot _ _ _ _ h
  · exact K.carryOut _ _ h
  · dsimp only
    split
    · exact K.completeSlot _ _ _ _ h
    · split
      · exact K.holdOrder _ hn h
      · split
        · exact K.completeSlot _ _ _ _ h
        · split
          · exact K.takeLateRepeat _ _ _ _ hn h
          · exact K.carryOut _ _ h

theorem discardOwed (n) (h : P s) : P (State.discardOwed n s) := K.frame s _ rfl rfl rfl rfl h

theorem retake (n) (h : P s) : P (State.retake n s) := by
  unfold State.retake
  refine K.discardOwed n ?_
  split
  · exact K.loseEntry _ _ h
  · exact h

theorem beginTake (n) (h : P s) : P (State.beginTake n s) := K.putSlotState _ _ (K.retake n h)

theorem lookAt (n) (h : P s) : P (State.lookAt n s) := by
  unfold State.lookAt
  split
  · unfold State.judgeSlot
    split
    · exact K.completeSlot _ _ _ _ (K.beginTake n h)
    · split
      · exact K.completeSlot _ _ _ _ (K.beginTake n h)
      · exact K.judgeOrder _ _ _ (beginTake_schedule n s) (K.beginTake n h)
  · exact h

theorem scanLook (h : P s) : P s.scanLook := by
  unfold State.scanLook
  split
  · exact h
  · exact K.setScanner _ (K.lookAt _ h)

theorem scanLooks (k : Nat) (h : P s) : P (State.scanLooks k s) := by
  induction k generalizing s with
  | zero => exact h
  | succ k ih => exact ih (K.scanLook h)

theorem fileOrder (n t o) (h : P s) : P (State.fileOrder n t o s) := K.putSlotState _ _ (K.putWords _ _ h)

theorem takeOrder (n t o) (h : P s) : P (State.takeOrder n t o s) := by
  unfold State.takeOrder
  split
  · exact K.judgeOrder _ _ _ (beginTake_schedule n _) (K.beginTake n (K.fileOrder n t o h))
  · exact h

theorem fire (n) (h : P s) : P (State.fire n s) := by
  unfold State.fire
  split
  · exact h
  · next e he =>
    split
    · split
      · next o _ =>
        unfold State.fireEntry
        split
        · exact K.carryOut _ _ (K.putSlotState _ _ (K.removeEntry _ h))
        · next r _ =>
          have h1 := K.dispatch { slot := e.slot, fired := true, again := true, late := r.late } o h
          have h2 := (kept_schedule s.schedule).dispatch
            { slot := e.slot, fired := true, again := true, late := r.late } o (List.Sublist.refl _)
          generalize s.dispatch { slot := e.slot, fired := true, again := true, late := r.late } o = d at h1 h2 ⊢
          obtain ⟨s', result⟩ := d
          dsimp only at h1 h2 ⊢
          exact K.settleRepeat e _ h ⟨e, List.mem_of_find?_eq_some he, rfl⟩ (h2.filter _) (K.removeEntry _ h1)
      · exact K.loseEntry _ _ h
    · exact K.loseEntry _ _ h

theorem lineQuiet (i) (h : P s) : P (State.lineQuiet i s) := K.setInput _ _ h

theorem endScan (h : P s) : P s.endScan := K.scanLooks 128 h

theorem hrefEdge (h : P s) : P s.hrefEdge := by
  unfold State.hrefEdge
  have h1 : P (s.setPins s.pins.takeHref) := K.setPins _ h
  dsimp only
  split
  · have h2 := K.closeClock h1
    split
    · exact K.arrival (K.endScan h2)
    · exact K.arrival h2
  · exact h1

theorem wordPinEdge (i) (h : P s) : P (State.wordPinEdge i s) := by
  unfold State.wordPinEdge
  have h1 : P (s.setPins (s.pins.takeWord i)) := K.setPins _ h
  dsimp only
  split
  · exact K.setInput _ _ h1
  · exact h1

theorem markPinEdge (i) (h : P s) : P (State.markPinEdge i s) := K.markEdge _ _ (K.setPins _ h)

/-- An event the part makes of its own accord keeps the property. -/
theorem takeEvent (e : Due) (h : P s) : P (State.takeEvent e s) := by
  cases e
  · exact K.hrefMissing h
  · exact K.holdoverExpiry h
  · exact K.tallyPulseEnd _ h
  · exact K.giveUnlocked h
  · exact K.counted h
  · exact K.enterSilent _ h
  · exact K.checkOwed h
  · exact K.initialisationEnd h
  · exact K.idleExpiry h
  · exact K.reArm _ h
  · exact K.applyPort _ _ h
  · exact K.verifyExpiry _ h
  · exact K.fire _ h
  · exact K.wordBoundary _ h
  · exact K.endPulse _ h
  · exact K.unitEvent _ h
  · exact K.cellStart _ h
  · exact K.lineQuiet _ h
  · exact K.wordArrival _ h
  · exact K.beginReset h
  · exact K.setHold _ h
  · exact K.hrefEdge h
  · exact K.wordPinEdge _ h
  · exact K.markPinEdge _ h

theorem takeIfDue (e : Due) (h : P s) : P (State.takeIfDue e s) := by
  unfold State.takeIfDue
  split
  · exact K.takeEvent e h
  · exact h

theorem endPulses (h : P s) : P s.endPulses := Kept.foldl (fun _ e => K.takeIfDue e) _ h

theorem settleFor (k : Nat) (h : P s) : P (State.settleFor k s) := by
  induction k generalizing s with
  | zero => exact h
  | succ k ih =>
    unfold State.settleFor
    split
    · exact ih (K.takeEvent _ h)
    · exact h

theorem settle (h : P s) : P s.settle := K.settleFor 4096 h

theorem finishTick (h : P s) : P s.finishTick := by
  unfold State.finishTick
  have h1 := K.settle h
  generalize s.settle = t at h1 ⊢
  have h2 : P (if t.clock.phase = .early then t.secondTick.settle else t) := by
    split
    · next hp => exact K.settle (K.secondTick hp h1)
    · exact h1
  dsimp only
  generalize (if t.clock.phase = .early then t.secondTick.settle else t) = u at h2 ⊢
  split
  · exact K.settle (K.endScan h2)
  · exact h2

theorem pass (k : Nat) (h : P s) : P (State.pass k s) := by
  induction k generalizing s with
  | zero => exact h
  | succ k ih => exact ih (K.beginTick (K.finishTick h))

theorem upTo (k : Nat) (h : P s) : P (State.upTo k s) := K.endPulses (K.pass k h)
theorem after (k : Nat) (h : P s) : P (State.after k s) := K.pass k h

theorem frameBoundary (h : P s) : P (Machine.frameBoundary s) := by
  unfold Machine.frameBoundary
  have h1 := K.finishTick h
  generalize s.finishTick = t at h1 ⊢
  dsimp only
  refine K.finishOwed ?_
  split
  · exact K.beginTick h1
  · exact h

theorem driveReset (x : ResetEvent) (h : P s) : P (Machine.driveReset x s) := by
  have h1 := K.takeIfDue .resetBegins h
  have h2 := K.beginReset h
  cases x <;> simp only [Machine.driveReset]
  · split
    · exact h
    · exact K.setHold _ h
  · split
    · generalize State.takeIfDue .resetBegins s = t at h1 ⊢
      exact K.frame t _ rfl rfl rfl rfl h1
    · exact h
  · exact K.setHold _ h2
  · exact K.setHold _ h

theorem idle (h : P s) : P s.idle := by
  unfold State.idle
  split
  · exact K.takeEvent _ h
  · split
    · exact K.scanLook h
    · split
      · exact K.completionWrite (K.reportWrite h)
      · split
        · next hp => exact K.secondTick hp h
        · exact K.beginTick h

end KeptAdd

end Sys2Proof.Machine
end

