-- ==== Sys2Proof/Laws/Operations.lean ====
section
/-! SUPPORT. What the shared operations do, said once: the Report Writer's door by its cases, pins, word
boundaries, RESET# and the stop by their cases, an event that is due, an order's own row from its slot to its owner, and a
change made for each number. -/

namespace Sys2Proof.Machine

open State

/-! ## The Report Writer's door (R174, R176, R177) -/

theorem handReport_accepted {s : State} {r : Report} (h : s.bus.ready = true)
    (hq : reportsWaiting s.writer.queue < 64) :
    s.handReport r = { s with writer := { s.writer with
      accepted := s.writer.accepted + 1, queue := s.writer.queue ++ [.report r] } } := by
  simp [handReport, acceptReport, h, hq, setWriter]

theorem handReport_dropped {s : State} {r : Report} (h : s.bus.ready = true)
    (hq : 64 ≤ reportsWaiting s.writer.queue) :
    s.handReport r = { s with
      writer := { s.writer with accepted := s.writer.accepted + 1, dropped := bump s.writer.dropped,
                                gap := bump s.writer.gap },
      store := s.store.putWord Address.droppedTotal (num (bump s.writer.dropped)) } := by
  simp [handReport, acceptReport, h, Nat.not_lt.mpr hq, setWriter, countDrop, putWord]

theorem handReport_kept {s : State} {r : Report} (h : s.bus.ready = false)
    (hq : reportsWaiting s.writer.kept < 64) :
    s.handReport r = { s with writer := { s.writer with kept := s.writer.kept ++ [.report r] } } := by
  simp [handReport, h, hq, setWriter]

theorem handReport_lost {s : State} {r : Report} (h : s.bus.ready = false)
    (hq : 64 ≤ reportsWaiting s.writer.kept) :
    s.handReport r = { s with writer := { s.writer with
      dropped := bump s.writer.dropped, gap := bump s.writer.gap } } := by
  simp [handReport, h, Nat.not_lt.mpr hq, setWriter, countDrop]

/-- A report changes the writer, and of the store at most the dropped total. -/
theorem handReport_frame (s : State) (r : Report) :
    s.handReport r = { s with writer := (s.handReport r).writer, store := (s.handReport r).store } := by
  cases h : s.bus.ready
  · rcases Nat.lt_or_ge (reportsWaiting s.writer.kept) 64 with hq | hq
    · rw [handReport_kept h hq]
    · rw [handReport_lost h hq]
  · rcases Nat.lt_or_ge (reportsWaiting s.writer.queue) 64 with hq | hq
    · rw [handReport_accepted h hq]
    · rw [handReport_dropped h hq]

theorem handCompletion_frame (s : State) (c : Completion) :
    s.handCompletion c = { s with writer := (s.handCompletion c).writer } := by
  unfold handCompletion acceptCompletion
  simp only [setWriter]
  split <;> rfl

theorem here_handReport (s : State) (r : Report) : (s.handReport r).here = s.here := by simp [here]

/-! ## Pins (R187) -/

theorem Pin.sample_same {p : Pin} (h : p.driven = p.level) : p.sample = { p with samples := 0 } := by
  simp [Pin.sample, h]

theorem Pin.sample_changed {p : Pin} (h : p.driven ≠ p.level) :
    p.sample = { p with samples := min 3 (p.samples + 1) } := by
  simp [Pin.sample, h]

@[simp] theorem Pin.edgeDue_taken (p : Pin) : p.taken.edgeDue = false := rfl

theorem Pin.edgeDue_iff (p : Pin) : p.edgeDue = true ↔ 3 ≤ p.samples := by simp [Pin.edgeDue]

/-- A fall of HREF is no arrival. -/
theorem hrefEdge_fall {s : State} (h : s.pins.href.level = true) : s.hrefEdge = s.setPins s.pins.takeHref := by
  simp [hrefEdge, h]

/-- An arrival that does not crash-lock ends no scan. -/
theorem hrefEdge_arrival {s : State} (h : s.pins.href.level = false)
    (hc : (s.setPins s.pins.takeHref).closeClock.crashDue = false) :
    s.hrefEdge = (s.setPins s.pins.takeHref).closeClock.arrival := by
  simp [hrefEdge, h, hc]

/-- An arrival that cuts the frame ends the frame's scans first. -/
theorem hrefEdge_cut {s : State} (h : s.pins.href.level = false)
    (hc : (s.setPins s.pins.takeHref).closeClock.crashDue = true) :
    s.hrefEdge = (s.setPins s.pins.takeHref).closeClock.endScan.arrival := by
  simp [hrefEdge, h, hc]

/-- An arrival crash-locks only where the clock's own conditions hold. -/
theorem crashDue_possible {s : State} (h : s.crashDue = true) : s.crashPossible = true := by
  simp only [crashDue, crashAllowed, Bool.and_eq_true] at h
  simp [crashPossible, h.1.1, h.1.2, h.2.1]

/-- An edge that has been taken cuts no frame. -/
theorem mayCut_taken (s : State) : (s.setPins s.pins.takeHref).mayCut = false := rfl

/-- Without an edge on HREF no frame is cut. -/
theorem mayCut_no_edge {s : State} (h : s.pins.href.samples < 3) : s.mayCut = false := by
  have : s.pins.href.edgeDue = false := by simpa [Pin.edgeDue] using h
  simp [mayCut, this]

theorem scanLooks_none {s : State} (h : s.scanner.point = none) (k : Nat) : scanLooks k s = s := by
  induction k with
  | zero => rfl
  | succ k ih => simp [scanLooks, scanLook, h, ih]

/-! ## Word boundaries and port order -/

theorem beginBoundary_owed {o : OutputId} {s : State} (h : s.wordDue o = true) : beginBoundary o s = wordBoundary o s := by
  simp [beginBoundary, h]

theorem beginBoundary_begun {o : OutputId} {s : State} (h : s.wordDue o = false) : beginBoundary o s = s := by
  simp [beginBoundary, h]

/-- R33: a port applies when it is owed and no lower port is. -/
theorem applyDue_iff (s : State) (i : PortId) :
    s.applyDue i = true ↔ s.applyOwed i = true ∧ ∀ j, j < i → s.applyOwed j = false := by
  simp [applyDue]

/-! ## RESET# and the supply (R188) -/

/-- RESET# low for 16 reference ticks is long enough, whatever the free value of entry 8. -/
theorem resetBegins_of_ticks {s : State} (hl : s.hold.low = true) (hh : s.hold.held = false) (hn : 16 ≤ s.hold.lowFor) :
    s.resetBegins = true := by
  simp [resetBegins, hl, hh, hn]

theorem resetEnds_iff (s : State) :
    s.resetEnds = true ↔ s.hold.held = true ∧ s.hold.low = false ∧ s.hold.supply = true ∧ s.hold.powerLeft = 0 := by
  simp [resetEnds, and_assoc]

/-! ## What a frame boundary owes (entry 4) -/

/-- With nothing owed the clock's boundary has been made. -/
theorem closeClock_settled {s : State} (h : s.clock.settleOwed = false) : s.closeClock = s := by
  simp [closeClock, missingDue, holdoverDue, h]

theorem giveUnlocked_owed {s : State} (h : s.owed.unlocked = true) :
    s.giveUnlocked = s.unlockedNotice.setOwed { s.owed with unlocked := false } := by
  simp [giveUnlocked, h]

theorem giveUnlocked_given {s : State} (h : s.owed.unlocked = false) : s.giveUnlocked = s := by
  simp [giveUnlocked, h]

theorem counted_owed {s : State} (h : s.owed.count = true) :
    s.counted = s.countSilence.setOwed { s.owed with count := false } := by
  simp [counted, h]

theorem counted_made {s : State} (h : s.owed.count = false) : s.counted = s := by
  simp [counted, h]

theorem checkOwed_made {s : State} (h : s.owed.check = false) : s.checkOwed = s := by
  simp [checkOwed, h]

theorem finishOwed_done {s : State} (h : s.owed = { unlocked := false, count := false, check := false }) :
    s.finishOwed = s := by
  simp [finishOwed, giveUnlocked, counted, checkOwed, h]

/-- No device is past its limit, so none enters SILENT. -/
theorem closeSilences_none {s : State} (h : ∀ d, s.silent d = false) : s.closeSilences = s := by
  unfold closeSilences forEach
  generalize List.finRange 16 = l
  induction l with
  | nil => rfl
  | cons d l ih => simpa [h d] using ih

/-- Before the boundary has counted, and where no device is past its limit, another event finds the roster as it stands. -/
theorem rosterFirst_as_it_stands {s : State} (h : s.owed.count = true ∨ ∀ d, s.silent d = false) : s.rosterFirst = s := by
  unfold rosterFirst
  split
  · rfl
  · next hc => exact closeSilences_none (h.resolve_left hc)

/-- What is owed plays no part in a report. -/
theorem handReport_setOwed (s : State) (r : Report) (x : Owed) :
    (s.setOwed x).handReport r = (s.handReport r).setOwed x := by
  cases h : s.bus.ready
  · rcases Nat.lt_or_ge (reportsWaiting s.writer.kept) 64 with hq | hq
    · rw [handReport_kept h hq, handReport_kept (s := s.setOwed x) h hq]; rfl
    · rw [handReport_lost h hq, handReport_lost (s := s.setOwed x) h hq]; rfl
  · rcases Nat.lt_or_ge (reportsWaiting s.writer.queue) 64 with hq | hq
    · rw [handReport_accepted h hq, handReport_accepted (s := s.setOwed x) h hq]; rfl
    · rw [handReport_dropped h hq, handReport_dropped (s := s.setOwed x) h hq]; rfl

/-- Nor in the settling of a boundary. -/
theorem settleClock_setOwed (s : State) (x : Owed) : (s.setOwed x).settleClock = s.settleClock.setOwed x := by
  cases h : s.bus.ready <;> simp [settleClock, writeMirror, setOwed, setClock, putWord, State.frame, h]

/-- R22: a change of clock state touches the clock's state, the writer and what is owed, and of the store at most the dropped
total. -/
theorem changeClock_eq (s : State) (new : ClockState) (cause : ClockCause) (holdover : Option Int) :
    s.changeClock new cause holdover =
      (({ s with clock := { s.clock with state := new }, writer := { s.writer with clock := true } }).handReport
        { position := s.here, urgent := clockUrgent s.clock.state new
          body := .clockState s.clock.state new cause holdover }).setOwed
        { s.owed with unlocked := s.owed.unlocked || decide (s.clock.state = ClockState.locked) } := by
  rw [← handReport_setOwed]
  rfl

/-- R99: a device's move writes its own record and no other, and of the rest the writer, the store's dropped total and the
groups. -/
theorem moveDevice_frame (s : State) (d : DeviceId) (previous : DeviceState) (r : Device) (reason : DeviceReason)
    (offset : Option Int) (extra : BitVec 32) :
    s.moveDevice d previous r reason offset extra = { s with
      devices := s.devices.set d (some r), groups := (s.moveDevice d previous r reason offset extra).groups,
      writer := (s.moveDevice d previous r reason offset extra).writer,
      store := (s.moveDevice d previous r reason offset extra).store } := by
  unfold moveDevice report
  dsimp only
  split
  · unfold suspectNotice noticeTakes
    rw [handReport_frame]
    rfl
  · rw [handReport_frame]
    rfl

/-! ## The stop (R114, R143) -/

/-- With no run active nothing ends before a take closes, whatever the free value of entry 28. -/
theorem stopRunsBefore_none {s : State} (h : ∀ o : OutputId, s.runs[o] = none) (n : Nat) (g : GroupId) :
    stopRunsBefore n g s = s := by
  unfold stopRunsBefore forEach
  generalize List.finRange 4 = l
  induction l with
  | nil => rfl
  | cons o l ih =>
    have ho : (s.runs[o].isSome && decide (o.val < Config.runsEndedBefore n g)) = false := by rw [h o]; rfl
    rw [List.foldl_cons]
    dsimp only
    rw [if_neg (by rw [ho]; exact Bool.false_ne_true)]
    exact ih

/-! ## Events -/

theorem takeIfDue_due {e : Due} {s : State} (h : s.isDue e = true) : takeIfDue e s = takeEvent e s := by
  simp [takeIfDue, h]

theorem takeIfDue_not_due {e : Due} {s : State} (h : s.isDue e = false) : takeIfDue e s = s := by
  simp [takeIfDue, h]

/-! ## An order from its row to its owner (entry 6) -/

/-- An order's own row files it and has it taken, whatever its timing. -/
theorem exec_orderRow {c : Instr} {w : Nat} {n : SlotId} {t : Timing} {o : Order} (s : State)
    (h : orderRow c = some (w, n, t, o)) : exec c s = .next (takeOrder n t o (upTo w s)) := by
  cases c <;> simp only [orderRow, Option.some.injEq, Prod.mk.injEq, reduceCtorEq] at h <;>
    (obtain ⟨rfl, rfl, rfl, rfl⟩ := h; rfl)

theorem takeOrder_ready {n : SlotId} {t : Timing} {o : Order} {s : State} (h : s.bus.ready = true) :
    takeOrder n t o s = judgeOrder n t o (orderTaken n t o s) := by
  simp [takeOrder, h, orderTaken]

theorem takeOrder_closed {n : SlotId} {t : Timing} {o : Order} {s : State} (h : s.bus.ready = false) :
    takeOrder n t o s = s := by
  simp [takeOrder, h]

/-- R147: an order with timing 0 is carried out when it is taken. -/
theorem judgeOrder_atOnce {n : SlotId} {t : Timing} {o : Order} {s : State} (h : t.timing = 0) :
    judgeOrder n t o s = carryOut { slot := n, fired := false, again := false, late := false } o s := by
  have hw : readWhen t o = some .atOnce := by cases o <;> simp [readWhen, h, allows]
  simp [judgeOrder, hw]

/-- An order's own row with timing 0, up to its owner. -/
theorem exec_orderRow_atOnce {c : Instr} {w : Nat} {n : SlotId} {t : Timing} {o : Order} {s : State}
    (h : orderRow c = some (w, n, t, o)) (hr : (upTo w s).bus.ready = true) (ht : t.timing = 0) :
    exec c s = .next (carryOut { slot := n, fired := false, again := false, late := false } o
      (orderTaken n t o (upTo w s))) := by
  rw [exec_orderRow s h, takeOrder_ready hr, judgeOrder_atOnce ht]

/-- R173: an order whose owner answers completes its slot. -/
theorem carryOut_completes {tk : Taking} {o : Order} {s s' : State} {code reply record}
    (h : s.dispatch tk o = (s', .completes code reply record)) :
    carryOut tk o s = completeSlot tk.slot (lateCode tk.late code) reply record s' := by
  simp [carryOut, h]

theorem carryOut_awaits {tk : Taking} {o : Order} {s s' : State} (h : s.dispatch tk o = (s', .awaitsRun)) :
    carryOut tk o s = s' := by
  simp [carryOut, h]

/-! ## A change made for each number -/

/-- Where each change leaves the others' items alone, every item is changed once, from what it was. -/
theorem forEach_items {α : Type} {n : Nat} {f : Fin n → State → State} {item : Fin n → State → α} {g : Fin n → α}
    (inv : State → Prop) (hinv : ∀ i s, inv s → inv (f i s))
    (hother : ∀ i j s, i ≠ j → inv s → item j (f i s) = item j s)
    (s : State) (h : inv s)
    (hown : ∀ i s', inv s' → item i s' = item i s → item i (f i s') = g i) :
    ∀ i, item i (forEach n f s) = g i := by
  unfold forEach
  suffices H : ∀ (l : List (Fin n)) (s' : State), inv s' → l.Nodup →
      (∀ i ∈ l, item i s' = item i s) →
      ∀ i, item i (l.foldl (fun s i => f i s) s') = if i ∈ l then g i else item i s' by
    intro i
    rw [H (List.finRange n) s h (List.nodup_finRange n) (fun _ _ => rfl) i]
    simp
  intro l
  induction l with
  | nil => intro s' _ _ _ i; simp
  | cons a l ih =>
    intro s' hs' hl hi i
    have hal : a ∉ l := (List.nodup_cons.mp hl).1
    have hl' : l.Nodup := (List.nodup_cons.mp hl).2
    have hi' : ∀ j ∈ l, item j (f a s') = item j s := fun j hj => by
      rw [hother a j s' (fun e => hal (e ▸ hj)) hs']
      exact hi j (List.mem_cons_of_mem _ hj)
    rw [List.foldl_cons, ih (f a s') (hinv a s' hs') hl' hi' i]
    by_cases hia : i = a
    · subst hia
      simp [hal, hown i s' hs' (hi i (List.mem_cons_self ..))]
    · by_cases hil : i ∈ l
      · simp [hil]
      · simp [hil, hia, hother a i s' (fun e => hia e.symm) hs']

end Sys2Proof.Machine
end

