-- ==== Sys2Proof/WellFormed.lean ====
section
/-! DEFINITION. What a well-formed command is, as far as its operands alone say. -/

namespace Sys2Proof

/-- A command is well formed when its scan looks at one slot at least (R171); every other operand may hold any value. -/
def WellFormed : Instr → Bool
  | .scan _ looks => decide (0 < looks)
  | .hardReset _ _ | .hrefArrival _ _ | .markEdge _ _ _ _ | .twiLevelChange _ _ _ | .softReset _
  | .initialisationEnd _ | .nudge _ _ | .attnClearUrgent _ | .attnClearClock _
  | .registerWrite _ _ _ | .readCountWrite _ _ | .noticeLevelWrite _ _ | .attentionMaskWrite _ _
  | .frameBoundary _ | .hrefMissing _ | .holdoverExpiry _ | .clockStart _ _ _ _ | .clockTune _ _ _ _
  | .clockStop _ _ _ | .portSet _ _ _ _ | .portOff _ _ _ _ | .portSettingApply _ _ | .unitEvent _ _
  | .portPulseEnd _ _ | .tallySetSet _ _ _ _ | .tallySetClear _ _ _ _ | .tallySetToggle _ _ _ _
  | .tallySetPulse _ _ _ _ _ | .tallySetBind _ _ _ _ _ _ | .tallySetUnbind _ _ _ _ _
  | .tallySetPolarity _ _ _ _ _ | .tallyPulseEnd _ _ | .wordBoundary _ _ | .outputSet _ _ _ _
  | .userTable _ _ _ _ | .inputSet _ _ _ _ | .timeWordArrival _ _ | .lineQuiet _ _ | .silence _ _
  | .deviceEnrol _ _ _ _ | .deviceDrop _ _ _ _ | .faultAck _ _ _ _ | .jam _ _ _ _ _ | .verifyExpiry _ _
  | .latchReArm _ _ | .markSet _ _ _ _ | .markInject _ _ _ _ _ | .groupSet _ _ _ _ | .takeOpen _ _ _ _
  | .takeClose _ _ _ _ | .cancel _ _ _ _ | .queryClock _ _ _ _ _ | .queryDevice _ _ _ _
  | .queryTake _ _ _ _ | .queryMark _ _ _ _ | .idleTimerExpiry _ | .scheduleFiring _ _ | .reportWrite _
  | .completionWrite _ | .cellStart _ _ => true

end Sys2Proof
end

