-- ==== Sys2Proof/Tests/Slice0.lean ====
section
/-! SUPPORT. The package's own tests: the ill-formed commands that WellFormed refuses, the worked examples of the spec, one
step of a few commands, and, for each statement with hypotheses, a concrete state and operands that meet them, clause by
clause, at the ends of their ranges. -/

namespace Sys2Proof.Tests

open Sys2Proof Sys2Proof.Machine Sys2Proof.Machine.State

set_option maxRecDepth 20000
set_option Elab.async false

/-! ## Small states -/

/-- After a hard reset, with the store open. -/
def openS : State := { State.reset with bus := { ready := true, initLeft := 0, hard := true } }
/-- With the clock changed. -/
def clockS (f : Clock → Clock) : State := { openS with clock := f openS.clock }
/-- With the clock running free at rate code 10, reference use off. -/
def runS : State := clockS fun c => { c with state := .freeRun, rate := 10 }
/-- With the clock in a state at rate code 10, reference use on. -/
def refS (st : ClockState) (f : Clock → Clock) : State :=
  clockS fun c => f { c with state := st, rate := 10, refUse := true }
/-- With a word of the store written. -/
def withWord (a : Nat) (w : Word) (s : State) : State := s.putWord a w

/-- Settings of a device: input 1, jam output 2, group 0. -/
def settings : DeviceSettings :=
  { input := some 1, jamOutput := some 2, groups := 1, soft := 10, hard := 100, threshold := 2, filter := .both
    policy := .none, silence := 5, driftWindow := 8 }
/-- An enrolled record in a state. -/
def device (st : DeviceState) : Device := { Device.enrolled settings with state := st }
/-- With device 3 enrolled. -/
def devS (x : Device) (s : State) : State := { s with devices := s.devices.set 3 (some x) }
/-- A take with no marks and no participants. -/
def take : Take :=
  { number := 4, tag := 9, opener := .mark 0, opened := ⟨0, 0⟩, openCount := 0, participants := [], marks := []
    markTotal := 0, flags := TakeFlags.none, suspects := 0, closed := none }
/-- With a take open in group 0. -/
def takeS (t : Take) (s : State) : State := { s with groups := s.groups.set 0 { Group.reset with take := some t } }
/-- With an entry held for slot 7. -/
def entryS (e : Entry) (s : State) : State := { s with schedule := [e] }
/-- An entry of slot 7, a CLOCK_STOP due at frame 0. -/
def entry : Entry := { slot := 7, kind := 0x03, due := 0, again := none }
/-- The words of a held CLOCK_STOP in slot 7. -/
def heldSlot (s : State) : State :=
  withWord 0x01E0 3 (withWord 0x01E1 0x03 (withWord 0x01E2 (~~~ 0x03) s))
/-- Timing words. -/
def timed (k : Word) (due : FrameNo) (interval count : Word) : Timing :=
  { timing := k, due := due, interval := interval, count := count }
/-- A port setting of 2 events in 1 frame. -/
def setting (sh : Shape) : PortSetting := { events := 2, frames := 1, phase := 3, shape := sh, invert := false }
/-- With port 1 changed. -/
def portS (p : Port) (s : State) : State := { s with ports := s.ports.set 1 p }
/-- With line 1 changed. -/
def lineS (l : Line) (s : State) : State := { s with lines := s.lines.set 1 l }
/-- With output 2 changed. -/
def outS (x : Output) (s : State) : State := { s with outputs := s.outputs.set 2 x }
/-- With input 1 changed. -/
def inS (x : Input) (s : State) : State := { s with inputs := s.inputs.set 1 x }
/-- With mark input 5 changed. -/
def markS (m : MarkInput) (s : State) : State := { s with marks := s.marks.set 5 m }
/-- A pin driven to a level other than the one taken, sampled so for n ticks. -/
def pin (driven : Bool) (n : Nat) : Pin := { driven := driven, level := !driven, samples := n }
/-- With MARK5 changed. -/
def markPinS (p : Pin) (s : State) : State := { s with pins := { s.pins with marks := s.pins.marks.set 5 p } }
/-- With TWI1 changed. -/
def wordPinS (p : Pin) (s : State) : State := { s with pins := { s.pins with words := s.pins.words.set 1 p } }
/-- With HREF changed. -/
def hrefS (p : Pin) (s : State) : State := { s with pins := { s.pins with href := p } }
/-- With RESET# and the supply changed. -/
def holdS (h : Hold) (s : State) : State := { s with hold := h }
/-- With what the present frame boundary still owes. -/
def owedS (x : Owed) (s : State) : State := { s with owed := x }
/-- RESET# high, with the hard reset in force or not, the supply within its limits or not, and the ticks left of power-on. -/
def hold (held supply : Bool) (left : Nat) : Hold :=
  { held := held, low := false, lowFor := 0, supply := supply, powerLeft := left }
/-- A run on output 2 that waits for device 3. -/
def jamRun : Run :=
  { origin := .order 4 false false true, attempts := 1, phase := .requested, listeners := 8, waiting := 8, ok := 0
    failed := 0, blind := 0, startFrame := 0 }
/-- With a run on output 2. -/
def runOn (r : Run) (s : State) : State := { s with runs := s.runs.set 2 (some r) }
/-- With items in the output queue. -/
def queueS (q : List QueueItem) (s : State) : State := { s with writer := { s.writer with queue := q } }
/-- A report. -/
def gapReport : Report := { position := ⟨0, 0⟩, urgent := true, body := .logGap 1 1 }
/-- A completion of slot 63 with a record that ends the host area. -/
def lastCompletion : Completion :=
  { slot := 63, code := .done, frame := 0, fired := 0, missed := 0, reply := Reply.zero
    record := some { address := 0x7FFF, capacity := 1, words := [5] }, fence := 0 }
/-- Arguments of a CLOCK_START at a rate code with label 00:00:00:00 and the parameters of a hard reset. -/
def startArgs (rate refUse : Word) : ClockStartArgs :=
  { rate := rate, hh := 0, mm := 0, ss := 0, ff := 0, refUse := refUse, paramFlag := 1, slew := 255, window := 0
    holdover := 1, crash := 0 }
/-- A PORT_SET of port 11: E = 2, C = 1, phase 3. -/
def portArgs (sh : Word) : PortSetArgs :=
  { port := 11, events := 2, frames := 1, phase := 3, shape := sh, width := 5, gate := 1, invert := 0 }
/-- An OUTPUT_SET of output 3. -/
def outArgs (mode : Word) : OutputSetArgs :=
  { output := 3, mode := mode, burst := 15, wake := 0, grace := 255, attempts := 1, verify := 1, group := 0xFFFF
    idleIndex := 0, openIndex := 15 }
/-- A DEVICE_ENROL of device 15 on an input. -/
def enrolArgs (device input : Word) : DeviceEnrolArgs :=
  { device := device, input := input, jamOutput := 3, groups := 0xFF, soft := 0, hard := 0, threshold := 255
    filter := 2, policy := 0, silence := 1, driftWindow := 8 }
/-- A MARK_SET of mark input 15. -/
def markArgs (role target : Word) : MarkSetArgs :=
  { input := 15, role := role, target := target, edge := 2, windowBase := 1, windowLimit := 0, holdoff := 255
    quiet := 255 }

/-! ## WellFormed: one ill-formed command for each check -/

theorem test_wellFormed_refuses_a_scan_without_looks : WellFormed (.scan 0 0) = false := by decide
theorem test_wellFormed_takes_a_scan_of_one_look : WellFormed (.scan 0 1) = true := by decide

/-! ## Worked examples of the spec -/

/-- 3.2: 23.976, frame to label. -/
theorem test_label_of_frame_100000 : labelOf 0 186400 = { hh := 2, mm := 9, ss := 26, ff := 16 } := by decide
/-- 3.2: 29.97 drop frame, the table from label to count. -/
theorem test_counts_at_code_3 :
    labelCount 3 ⟨0, 0, 59, 29⟩ = 1799 ∧ labelCount 3 ⟨0, 1, 0, 2⟩ = 1800 ∧ labelCount 3 ⟨0, 10, 0, 0⟩ = 17982 ∧
      labelCount 3 ⟨0, 10, 0, 1⟩ = 17983 ∧ labelCount 3 ⟨0, 31, 0, 2⟩ = 55746 := by decide
/-- 3.2: and back. -/
theorem test_labels_at_code_3 :
    labelOf 3 1799 = ⟨0, 0, 59, 29⟩ ∧ labelOf 3 1800 = ⟨0, 1, 0, 2⟩ ∧ labelOf 3 17982 = ⟨0, 10, 0, 0⟩ ∧
      labelOf 3 55746 = ⟨0, 31, 0, 2⟩ := by decide
/-- 3.2: what the drop rule skips. -/
theorem test_skipped_labels :
    labelValid 3 ⟨0, 1, 0, 1⟩ = false ∧ labelValid 3 ⟨0, 1, 0, 2⟩ = true ∧ labelValid 8 ⟨0, 10, 0, 0⟩ = true ∧
      labelValid 8 ⟨0, 11, 0, 3⟩ = false := by decide
/-- 3.4: the slate's drift, the recorder's, and saturation. -/
theorem test_drift_estimates :
    driftEstimate 1016 99937 1080 100001 = some 1024 ∧ driftEstimate 300 0 199 100 = some (-1034) ∧
      driftEstimate 0 0 4000000 100 = some 32767 ∧ driftEstimate 0 0 (-4000000) 100 = some (-32767) := by decide
/-- 3.3: a device one whole frame off is a jump at code 0, and M / 8 itself is none. -/
theorem test_jumps : isJump 0 (some 0) 140765 = false ∧ isJump 0 (some 0) 140766 = true := by decide
/-- R14: a correction of 2 at rate code 10 changes ticks 112,500 and 337,500. -/
theorem test_change_ticks :
    isChangeTick 450000 (-2) 112500 = true ∧ isChangeTick 450000 (-2) 337500 = true ∧
      isChangeTick 450000 (-2) 112501 = false := by decide
/-- R19: a mean is rounded to nearest, ties away from zero. -/
theorem test_history_means :
    historyMean [3, 4] = 4 ∧ historyMean [-3, -4] = -4 ∧ historyMean [] = 0 ∧ historyMean [1, 1, 2] = 1 := by decide
/-- R28: 800 events in a frame at rate code 10 fall at ticks 0, 563, 1,125. -/
theorem test_event_ticks :
    eventTick 450000 1 800 0 = 0 ∧ eventTick 450000 1 800 1 = 563 ∧ eventTick 450000 1 800 2 = 1125 := by decide
/-- R184: the words of a LOG_GAP record. -/
theorem test_log_gap_words :
    reportWords 7 { position := ⟨0x00020001, 0x10003⟩, urgent := true, body := .logGap 5 6 } =
      [0x7F, 7, 1, 2, 3, 1, 0, 1, 5, 6, 0, 0, 0, 0, 0, 0] := by decide

/-! ## A step of a few commands -/

/-- R164, R162: the initialisation of a hard reset ends with the signature and the reset cause in the header. -/
theorem test_initialisationEnd :
    ∃ t, step { State.reset with
        bus := { ready := false, initLeft := 0, hard := true }, pending := [.initialisationEnd 0] } = .next t ∧
      t.bus.ready = true ∧ t.word 0 = 0x5043 ∧ t.word 2 = 1 ∧ t.word 0x11 = 1 ∧ t.pending = [] :=
  ⟨_, rfl, by decide⟩
/-- R6: the clock starts at the row's rate with frame 0. -/
theorem test_clockStart :
    ∃ t, exec (.clockStart 0 9 .atOnce (startArgs 10 1)) openS = .next t ∧ t.clock.state = .locking ∧
      t.clock.rate = 10 ∧ t.clock.frame = 0 ∧ t.slotWord 9 0 = 2 :=
  ⟨_, rfl, by decide⟩
/-- R30: a port setting stored while STOPPED. -/
theorem test_portSet :
    ∃ t, exec (.portSet 0 9 .atOnce { portArgs 0 with invert := 1 }) openS = .next t ∧
      t.ports[(11 : PortId)].active =
        some { events := 2, frames := 1, phase := 3, shape := .pulse 5, invert := true } :=
  ⟨_, rfl, by decide⟩
/-- R2: the tick passes the last of the frame. -/
theorem test_frameBoundary :
    ∃ t, exec (.frameBoundary 0) { runS with clock := { runS.clock with tick := 449999 } } = .next t ∧
      t.clock.frame = 1 ∧ t.clock.tick = 0 :=
  ⟨_, rfl, by decide +kernel⟩
/-- R120: a rise on a TAKE_START input opens a take. -/
theorem test_markEdge :
    ∃ t, exec (.markEdge 0 5 true 0) (markPinS (pin true 3) (markS { MarkInput.reset with role := .takeStart 0 } runS)) =
        .next t ∧ t.groups[(0 : GroupId)].isOpen = true ∧ t.marks[(5 : MarkId)].reArm = some 1 ∧
      t.pins.marks[(5 : MarkId)] = { driven := true, level := true, samples := 0 } :=
  ⟨_, rfl, by decide⟩
/-- R187: a level that has been sampled for two ticks is taken at the third, one that returns is not. -/
theorem test_three_samples :
    (pin true 2).sample.edgeDue = true ∧ (pin true 1).sample.edgeDue = false ∧
      ((pin true 2).drive false).sample.edgeDue = false := by decide
/-- R188: RESET# low for 16 ticks resets the part, which then holds its hard-reset values until RESET# goes high. -/
theorem test_hardReset :
    ∃ t, exec (.hardReset 0 .assert) (holdS { hold false true 0 with low := true, lowFor := 16 } runS) = .next t ∧
      t.clock = Clock.reset ∧ t.hold.held = true ∧ t.bus.ready = false ∧ t.dataBus (some 0) = none ∧
      ∃ q, exec (.hardReset 0 .release) t = .next q ∧ q.hold.held = false ∧ q.dataBus (some 0x8000) ≠ none :=
  ⟨_, rfl, by decide, by decide, by decide, by decide, _, rfl, by decide, by decide⟩
/-- R188: at power-on the hard reset holds while the supply is outside its limits, and ends 1,024 ticks after. -/
theorem test_powerOn :
    ∃ t, exec (.hardReset 0 .powerOn) runS = .next t ∧ t.clock = Clock.reset ∧ t.hold = hold true false 1024 ∧
      (∃ q, exec (.hardReset 1 .release) (holdS (hold true false 0) State.reset) = .next q ∧ q.hold.held = true) ∧
      (∃ q, exec (.hardReset 1 .powerGood) (holdS (hold true false 2) State.reset) = .next q ∧ q.hold.held = true) ∧
      ∃ q, exec (.hardReset 1 .powerGood) (holdS (hold true false 1) State.reset) = .next q ∧ q.hold.held = false :=
  ⟨_, rfl, by decide, by decide, ⟨_, rfl, by decide +kernel⟩, ⟨_, rfl, by decide +kernel⟩, _, rfl, by decide +kernel⟩
/-- R138: a take that closes at a boundary's instant before the notice that the clock has left LOCKED is not reached by it;
one that closes after is. -/
theorem test_a_take_closes_before_or_after_a_notice :
    let s := takeS take (refS .locked fun c => { c with settleOwed := true, missingRun := 4 })
    let close : Instr := .takeClose 0 9 .atOnce 0
    let flag (q : State) := q.groups[(0 : GroupId)].take.map fun k => (k.isOpen, k.flags.clockUnlocked)
    (∃ t q, exec close s = .next t ∧ exec (.hrefMissing 0) t = .next q ∧ flag q = some (false, false)) ∧
      ∃ t q, exec (.hrefMissing 0) s = .next t ∧ exec close t = .next q ∧ flag q = some (false, true) :=
  ⟨⟨_, _, rfl, rfl, by decide +kernel⟩, _, _, rfl, rfl, by decide +kernel⟩
/-- R117: a take that opens at a boundary's instant before its check holds back the run of a DEFER_IN_TAKE listener; one that
opens after it does not. -/
theorem test_a_take_opens_before_or_after_a_check :
    let s := owedS { unlocked := false, count := false, check := true }
      (outS { Output.reset with settings := { Output.reset.settings with mode := .burst }, state := .silent }
        (devS { device .tracking with settings := { settings with policy := .deferInTake }, jamWanted := true } runS))
    let opening : Instr := .takeOpen 0 9 .atOnce { group := 0, tag := 0 }
    (∃ t q, exec opening s = .next t ∧ exec (.frameBoundary 0) t = .next q ∧ q.runs[(2 : OutputId)] = none) ∧
      ∃ t q, exec (.frameBoundary 0) s = .next t ∧ exec opening t = .next q ∧ q.runs[(2 : OutputId)].isSome = true ∧
        q.groups[(0 : GroupId)].isOpen = true :=
  ⟨⟨_, _, rfl, rfl, by decide +kernel⟩, _, _, rfl, rfl, by decide +kernel⟩
/-- R86, R96: an event before the boundary's count finds the device as it stands, one after it finds it SILENT. -/
theorem test_the_roster_before_or_after_its_count :
    let s := owedS { unlocked := false, count := true, check := false } (devS { device .tracking with sinceWord := 5 } runS)
    let found (q : State) := q.rosterFirst.devices[(3 : DeviceId)].map fun x => (x.state, x.sinceWord)
    found s = some (.tracking, 5) ∧ found s.counted = some (.silent, 6) := by decide +kernel
/-- R35: at a step an active port with a pending off re-anchors before it goes off; an inactive one keeps its anchor. -/
theorem test_a_step_reanchors_a_port_that_goes_off :
    let p : Port := { Port.reset with pending := some .off, applyFrame := some 9, anchor := 2, cadenceFrame := 3 }
    let s (q : Port) := portS q { runS with clock := { runS.clock with frame := 5 } }
    let found (q : Port) := (stepPort 1 (s q)).ports[(1 : PortId)]
    found { p with active := some (setting .toggle) } = { Port.reset with anchor := 5 } ∧
      found p = { Port.reset with anchor := 2, cadenceFrame := 3 } := by decide
/-- R186: the fields of a word as an input hands them on. -/
theorem test_received_fields :
    readWord (composeWord ⟨1, 2, 3, 4⟩ 9 true 65 7) =
      { label := ⟨1, 2, 3, 4⟩, rate := 9, jam := true, user := 65, take := 7 } := by decide
/-- Entry 13: no word spells a command. -/
theorem test_no_word_spells_a_command : decodeTableWord 16 5 = none := rfl

/-! ## The statements' hypotheses are met -/

theorem test_witness_StepTakesTheFrontCommand :
    ({ State.reset with pending := [.nudge 0 1, .softReset 0] } : State).pending = .nudge 0 1 :: [.softReset 0] := rfl
theorem test_witness_StepKeeps :
    State.reset.storeSound ∧ State.reset.pictureSound ∧ State.reset.scheduleSound ∧
      ∃ t, step State.reset = .next t := by
  refine ⟨rfl, ?_, ?_, _, rfl⟩
  · exact ⟨by decide, by decide, by decide, by decide, by decide, fun t h => by cases h⟩
  · exact ⟨by decide, by decide⟩
theorem test_witness_HardResetByItsLength :
    (holdS { hold false true 0 with low := true, lowFor := 16 } openS).resetBegins = true ∧
      (holdS { hold true true 0 with low := true, lowFor := 16 } openS).resetBegins = false ∧
      (holdS (hold true true 0) openS).resetEnds = true ∧ (holdS (hold true false 0) openS).resetEnds = false ∧
      (holdS (hold true true 1) openS).resetEnds = false ∧ (holdS (hold true true 0) openS).hold.held = true := by decide
theorem test_witness_SoftReset :
    (upTo 0 State.reset).bus.ready = false ∧ (upTo 0 openS).bus.ready = true ∧
      (upTo 0 (takeS take openS)).groups[(0 : GroupId)].current = some take ∧
      (upTo 0 openS).groups[(0 : GroupId)].current = none ∧
      (upTo 0 (outS { Output.reset with state := .waking } openS)).outputs[(2 : OutputId)].state = .waking ∧
      (let s := upTo 0 (outS { Output.reset with
            state := .bursting, settings := { Output.reset.settings with mode := .burst } } openS)
       s.outputs[(2 : OutputId)].state = .bursting ∧ s.outputs[(2 : OutputId)].settings.mode = .burst) := by decide
theorem test_witness_InitialisationEnd :
    let s : State := { State.reset with bus := { ready := false, initLeft := 0, hard := true } }
    let t : State := { s with bus := { ready := false, initLeft := 0, hard := false },
                              scanner := { s.scanner with requested := true } }
    ((upTo 0 s).store.wf = true ∧ (upTo 0 s).bus.ready = false ∧ (upTo 0 s).bus.initLeft = 0 ∧
        (upTo 0 s).bus.hard = true ∧ (upTo 0 s).scanner.requested = false ∧ (upTo 0 s).writer.queue = [] ∧
        (upTo 0 s).writer.own.length + reportsWaiting (upTo 0 s).writer.kept ≤ 64) ∧
      ((upTo 0 t).store.wf = true ∧ (upTo 0 t).bus.ready = false ∧ (upTo 0 t).bus.initLeft = 0 ∧
        (upTo 0 t).bus.hard = false ∧ (upTo 0 t).scanner.requested = true) := by decide
theorem test_witness_ScanRequests :
    let idle (k : Nat) (p : Option SlotId) : State := { openS with scanner := { point := p, requested := false, idle := k } }
    (upTo 0 State.reset).bus.ready = false ∧
      ((upTo 0 openS).bus.ready = true ∧ (upTo 0 openS).scanner.point = none) ∧
      ((upTo 0 (idle 0 (some 63))).bus.ready = true ∧ (upTo 0 (idle 0 (some 63))).scanner.point ≠ none) ∧
      ((upTo 0 (idle 1048576 none)).bus.ready = true ∧ (upTo 0 (idle 1048576 none)).clock.state = .stopped ∧
        2 ^ 20 ≤ (upTo 0 (idle 1048576 none)).scanner.idle ∧ (upTo 0 (idle 1048576 none)).scanner.point = none) ∧
      (2 ^ 20 ≤ (upTo 0 (idle 1048576 (some 0))).scanner.idle ∧
        (upTo 0 (idle 1048576 (some 0))).scanner.point ≠ none) ∧
      ((upTo 0 runS).clock.state ≠ .stopped) ∧ (upTo 0 (idle 1048575 none)).scanner.idle < 2 ^ 20 := by decide
theorem test_witness_HostWritesByAddress :
    (upTo 0 State.reset).bus.ready = false ∧ (upTo 0 openS).bus.ready = true ∧
      ((0x0000 : Word).toNat < 0x8000 ∧ (0x0000 : Word) ≠ 0x0010) ∧
      ((0x7FFF : Word).toNat < 0x8000 ∧ (0x7FFF : Word) ≠ 0x0010) ∧ 0x8003 < (0x8004 : Word).toNat ∧
      0x8003 < (0xFFFF : Word).toNat ∧ (0x8001 : Word) = 0x8001 ∧ (2 : Word) ≠ 1 := by decide
theorem test_witness_HeaderWrites :
    let s : State := { openS with writer := { openS.writer with gap := 1 } }
    ((upTo 0 openS).bus.ready = true ∧ (upTo 0 openS).store.wf = true ∧ (upTo 0 openS).writer.gap = 0) ∧
      (let full := upTo 0 (withWord 0x10 0xFC00 s)
       full.bus.ready = true ∧ full.store.wf = true ∧ 0 < full.writer.gap ∧
        1024 ≤ (full.writer.written - full.word 0x10).toNat ∧ 1024 ≤ (full.writer.written - 0xFC00).toNat ∧
        (full.writer.written - 0xFC01).toNat < 1024) ∧
      ((upTo 0 s).writer.written - (upTo 0 s).word 0x10).toNat < 1024 := by decide
theorem test_witness_AttnAndInt :
    openS.bus.ready = true ∧ 1024 < ((withWord 0x10 0xFBFF openS).writer.written -
      (withWord 0x10 0xFBFF openS).word 0x10).toNat := by decide
theorem test_witness_RowsRunTheirOrderOrEvent :
    orderRow (.clockStop 0 63 .atOnce) = some (0, 63, .atOnce, .clockStop) ∧ (upTo 0 openS).bus.ready = true ∧
      (upTo 0 State.reset).bus.ready = false ∧ eventRow (.silence 0 3) = some (0, .silence 3) ∧
      (after 0 (devS { device .tracking with sinceWord := 6 } runS)).isDue (.silence 3) = true ∧
      (after 0 runS).isDue (.silence 3) = false ∧ eventRow (.latchReArm 0 5) = some (0, .latchReArm 5) ∧
      (upTo 0 (markS { MarkInput.reset with reArm := some 0 } runS)).isDue (.latchReArm 5) = true := by decide
theorem test_witness_TakenSlotHoldsItsOrder :
    openS.storeSound ∧ openS.entryOf 0 = none ∧ (entryS entry runS).storeSound ∧
      (entryS entry runS).entryOf 7 = some entry := by
  refine ⟨rfl, by decide, rfl, by decide⟩
theorem test_witness_OrdersAreJudgedByTheirTiming :
    let again := State.readWhen (timed 2 0 1 0) (.markInject 0 0)
    let full : State := { runS with schedule := List.replicate 32 entry }
    let graced := withWord 0x13 15 { runS with clock := { runS.clock with frame := 16 } }
    State.readWhen (timed 3 0 0 0) .clockStop = none ∧ State.readWhen (timed 1 0 0 0) (.cancel 0) = none ∧
      State.readWhen (timed 2 0 0 0) (.markInject 0 0) = none ∧ (timed 0 0 0 0).timing = 0 ∧
      State.readWhen (timed 1 0 0 0) .clockStop ≠ none ∧ again ≠ none ∧ openS.clock.state = .stopped ∧
      runS.clock.state ≠ .stopped ∧ (runS.clock.frame - 1).toInt < 0 ∧ 32 ≤ full.schedule.length ∧
      runS.schedule.length < 32 ∧ (runS.clock.frame - 0).toInt = 0 ∧
      ((min (graced.word 0x13).toNat 15 : Nat) : Int) < (graced.clock.frame - 0).toInt ∧
      (graced.clock.frame - 1).toInt ≤ ((min (graced.word 0x13).toNat 15 : Nat) : Int) := by decide
theorem test_witness_LateRepeats :
    let s := withWord 0x13 15 { runS with clock := { runS.clock with frame := 15 } }
    State.readWhen (timed 2 0 1 0) (.markInject 0 0) = some .again ∧ s.clock.state ≠ .stopped ∧
      0 ≤ (s.clock.frame - 0).toInt ∧ (s.clock.frame - 0).toInt ≤ ((min (s.word 0x13).toNat 15 : Nat) : Int) ∧
      (timed 2 0 1 0).count = 0 ∧ 15 / 1 + 1 < (timed 2 0 1 17).count.toNat ∧ s.schedule.length < 32 := by decide
theorem test_witness_HandingToTheReportWriter :
    let full (k : Nat) := List.replicate k (QueueItem.report gapReport)
    openS.bus.ready = true ∧ reportsWaiting (queueS (full 63) openS).writer.queue < 64 ∧
      64 ≤ reportsWaiting (queueS (full 64) openS).writer.queue ∧ State.reset.bus.ready = false ∧
      reportsWaiting State.reset.writer.kept < 64 ∧ 64 ≤ reportsWaiting (full 64) := by decide
theorem test_witness_ClockStart :
    let v (s : State) := orderTaken 9 .atOnce (.clockStart (startArgs 10 1)) (upTo 0 s)
    (upTo 0 openS).bus.ready = true ∧ Timing.atOnce.timing = 0 ∧ (v runS).clock.state ≠ .stopped ∧
      (v openS).clock.state = .stopped ∧ readStart (startArgs 11 0) = none ∧
      (readStart { startArgs 10 1 with slew := 256 }) = none ∧ (readStart (startArgs 10 1)).isSome = true ∧
      (readStart (startArgs 0 0)).isSome = true ∧
      (v (portS { Port.reset with active := some (setting .toggle) } openS)).ports[(1 : PortId)].active =
        some (setting .toggle) ∧ (v openS).ports[(1 : PortId)].active = none ∧ (v openS).store.wf = true ∧
      readStart { startArgs 10 1 with crash := 2, paramFlag := 0 } = none ∧ readStart { startArgs 3 0 with mm := 1 } = none ∧
      (v openS).scanner.point = none ∧ (v { openS with scanner := { openS.scanner with point := some 0 } }).scanner.point ≠ none ∧
      reportsWaiting (v openS).writer.queue + 29 ≤ 64 ∧
      (v (lineS { Line.reset with group := some 0 } openS)).lines[(1 : LineId)].group = some 0 ∧
      (v openS).lines[(1 : LineId)].group = none := by decide
theorem test_witness_ClockTune :
    let a : ClockTuneArgs := { slew := 255, window := 255, holdover := 1, crash := 1, refUse := 1 }
    let v (s : State) := orderTaken 9 .atOnce (.clockTune a) (upTo 0 s)
    (upTo 0 runS).bus.ready = true ∧ (v openS).clock.state = .stopped ∧ (v runS).clock.state ≠ .stopped ∧
      (1 ≤ a.slew.toNat ∧ a.slew.toNat ≤ 255 ∧ a.window.toNat ≤ 255 ∧ 1 ≤ a.holdover.toNat ∧ a.crash.toNat ≤ 1 ∧
        a.refUse.toNat ≤ 1) ∧ ¬ (1 ≤ ({ a with slew := 0 } : ClockTuneArgs).slew.toNat) := by decide
theorem test_witness_ClockStop :
    let v (s : State) := orderTaken 9 .atOnce .clockStop (upTo 0 s)
    (upTo 0 openS).bus.ready = true ∧ (upTo 0 runS).bus.ready = true ∧ (v openS).clock.state = .stopped ∧
      (v runS).clock.state ≠ .stopped ∧ (v runS).store.wf = true ∧
      (v (takeS take runS)).groups[(0 : GroupId)].current = some take ∧ (v runS).groups[(0 : GroupId)].current = none ∧
      (∀ o : OutputId, (v (takeS take runS)).runs[o] = none) ∧ (v (runOn jamRun runS)).runs[(2 : OutputId)] ≠ none ∧
      (v (refS .locked id)).closeClock.clock.state = .locked ∧
      (v (refS .locked fun c => { c with settleOwed := true, missingRun := 4 })).closeClock.owed.unlocked = true ∧
      (v runS).closeClock.owed.unlocked = false := by decide +kernel
theorem test_witness_Arrivals :
    let before (s : State) := upTo 0 (hrefS (pin true 3) s)
    let u (s : State) : State := closeClock { before s with pins := { (before s).pins with href :=
      { (before s).pins.href with level := !(before s).pins.href.level, samples := 0 } } }
    let inside := refS .locking fun c => { c with tick := 16, lockRun := 6 }
    let outside := refS .locking fun c => { c with tick := 17 }
    let eighth := refS .locking fun c => { c with tick := 0, lockRun := 7 }
    let third := refS .locked fun c => { c with tick := 225000, lockRun := 2 }
    let fourth := refS .locked fun c => { c with tick := 17, lockRun := 3 }
    let first := refS .holdover fun c => { c with tick := 512 }
    let free := refS .freeRun fun c => { c with tick := 513 }
    let declined := refS .locking fun c => { c with tick := 0, crashEligible := true }
    (upTo 0 (hrefS (pin true 2) runS)).pins.href.samples < 3 ∧
      (3 ≤ (upTo 0 (hrefS (pin false 3) runS)).pins.href.samples ∧
        (upTo 0 (hrefS (pin false 3) runS)).pins.href.level = true) ∧
      (3 ≤ (before runS).pins.href.samples ∧ (before runS).pins.href.level = false) ∧
      (u openS).clock.state = .stopped ∧ (u (refS .locked fun c => { c with arrived := true })).clock.arrived = true ∧
      ((u runS).clock.state = .freeRun ∧ (u runS).clock.refUse = false) ∧
      ((u inside).clock.arrived = false ∧ (u inside).clock.crashEligible = false ∧ (u inside).clock.lockRun < 7 ∧
        (arrivalError 450000 (u inside).here.tick).natAbs ≤ (u inside).clock.window) ∧
      (u outside).clock.window < (arrivalError 450000 (u outside).here.tick).natAbs ∧
      (u eighth).clock.lockRun = 7 ∧ (u third).clock.lockRun < 3 ∧
      (u third).clock.window < (arrivalError 450000 (u third).here.tick).natAbs ∧
      (u fourth).clock.lockRun = 3 ∧ (u fourth).clock.crashEligible = false ∧
      ((u first).clock.state = .holdover ∧
        (arrivalError 450000 (u first).here.tick).natAbs ≤ 8 * (u first).clock.slew) ∧
      ((u free).clock.state = .freeRun ∧ (u free).clock.refUse = true ∧ (u free).clock.crashPermit = false) ∧
      ((u declined).clock.crashEligible = true ∧ (u declined).clock.lockRun < 7 ∧
        (u declined).clock.crashPermit = false) := by decide
theorem test_witness_CrashLock :
    let u (s : State) : State :=
      let q := upTo 0 (hrefS (pin true 3) s)
      closeClock { q with pins := { q.pins with href := { q.pins.href with level := true, samples := 0 } } }
    let after (s : State) := scanLooks 128 (u s)
    let s (st : ClockState) := refS st fun c => { c with tick := 513, crashEligible := decide (st = .locking), crashPermit := true }
    let t := portS { Port.reset with active := some (setting .toggle) } (s .locking)
    let p := portS { Port.reset with pending := some (.setting (setting .toggle)) } (s .locking)
    let q := portS { Port.reset with pending := some .off } (s .locking)
    (∀ z : State, z = u (s .locking) ∨ z = after (s .locking) ∨ z = u (s .freeRun) ∨ z = after (s .freeRun) ∨
        z = u (s .holdover) ∨ z = after (s .holdover) →
      z.clock.arrived = false ∧ z.clock.lockRun < 7 ∧ z.clock.pendingTune = none ∧ z.clock.crashPermit = true ∧
        z.clock.refUse = true ∧ 8 * z.clock.slew < (arrivalError 450000 z.here.tick).natAbs ∧ z.anyOpen = false ∧
        z.store.wf = true ∧ z.bus.ready = true ∧ reportsWaiting z.writer.queue + 2 ≤ 64) ∧
      ((after (s .locking)).clock.state = .locking ∧ (after (s .locking)).clock.crashEligible = true) ∧
      (after (s .freeRun)).clock.state = .freeRun ∧ (after (s .holdover)).clock.state = .holdover ∧
      ((after t).ports[(1 : PortId)].active = some (setting .toggle) ∧ (after t).ports[(1 : PortId)].pending = none) ∧
      (after p).ports[(1 : PortId)].pending = some (.setting (setting .toggle)) ∧
      (after q).ports[(1 : PortId)].pending = some .off ∧ 3 ≤ (upTo 0 (hrefS (pin true 3) (s .locking))).pins.href.samples ∧
      (upTo 0 (hrefS (pin true 3) (s .locking))).pins.href.level = false := by
  refine ⟨?_, by decide⟩
  rintro z (h | h | h | h | h | h) <;> subst h <;> decide
theorem test_witness_FrameBoundary :
    let last (f : Clock → Clock) := refS .locked fun c => f { c with tick := 449999 }
    let tune : Tune := { slew := 1, window := 0, holdover := 1, crash := false, refUse := false }
    let v (s : State) := (upTo 0 s).finishTick
    ((v (last id)).clock.state ≠ .stopped ∧ rateTicks (v (last id)).clock.rate ≤ (v (last id)).clock.tick + 1 ∧
        (v (last id)).holdsTick = false ∧ (v (last id)).clock.pendingTune = none ∧ (v (last id)).clock.arrived = false) ∧
      (v (last fun c => { c with pendingTune := some tune })).clock.pendingTune = some tune ∧
      ((v (takeS take (last fun c => { c with pendingTune := some tune }))).groups[(0 : GroupId)].current = some take ∧
        (v (last id)).clock.state = .locked ∧ tune.refUse = false) ∧
      (upTo 0 runS).owed = { unlocked := false, count := false, check := false } ∧
      (v (last fun c => { c with missingRun := 2, arrived := true })).clock.missingRun < 4 ∧
      (v (last fun c => { c with state := .holdover })).clock.state = .holdover ∧
      (v (last fun c => { c with state := .freeRun })).clock.state = .freeRun ∧
      (v openS).clock.state = .stopped ∧
      (v (refS .locked fun c => { c with tick := 449998 })).clock.tick + 1 < rateTicks 10 := by decide +kernel
theorem test_witness_FrameBoundary_blocks :
    let s := { runS with clock := { runS.clock with tick := 449999 } }
    let v (s : State) := (upTo 0 s).finishTick
    ((v (portS { Port.reset with active := some (setting .toggle) } s)).ports[(1 : PortId)].active =
        some (setting .toggle)) ∧
      ((v (lineS { Line.reset with group := some 0 } s)).lines[(1 : LineId)] =
        { Line.reset with group := some 0 }) ∧
      (v (outS Output.reset s)).outputs[(2 : OutputId)].wordFrame + 1 < rateSpan 10 ∧
      rateSpan 10 ≤ (v (outS { Output.reset with wordFrame := 1 } s)).outputs[(2 : OutputId)].wordFrame + 1 ∧
      (let wanted := v (outS { Output.reset with settings := { Output.reset.settings with mode := .burst }, state := .silent }
          (devS { device .tracking with jamWanted := true } s))
       wanted.clock.pendingTune = none ∧ wanted.runs[(2 : OutputId)] = none ∧
        wanted.outputs[(2 : OutputId)].settings.mode ≠ .off ∧ wanted.outputs[(2 : OutputId)].state ≠ .waking ∧
        wanted.outputs[(2 : OutputId)].state ≠ .bursting ∧ wanted.outputs[(2 : OutputId)].request = none ∧
        wanted.devices[(3 : DeviceId)] = some { device .tracking with jamWanted := true } ∧
        (device .tracking).settings.jamOutput = some 2 ∧ ∀ g : GroupId, wanted.groups[g].current = none) ∧
      (v s).storeSound := by
  refine ⟨by decide +kernel, by decide +kernel, by decide +kernel, by decide +kernel, by decide +kernel, ?_⟩
  unfold storeSound
  decide +kernel
theorem test_witness_MissingAndExpiry :
    let s (st : ClockState) (m h : Nat) : State :=
      after 0 (refS st fun c => { c with settleOwed := true, missingRun := m, holdoverCount := h })
    ((s .locked 4 0).clock.settleOwed = true ∧ (s .locked 4 0).clock.refUse = true ∧
        4 ≤ (s .locked 4 0).clock.missingRun ∧ (s .locked 4 0).clock.state = .locked) ∧
      ((s .locking 4 0).clock.state = .locking ∧ 4 ≤ (s .locking 4 0).clock.missingRun) ∧
      ((s .holdover 0 1500).clock.state = .holdover ∧
        (s .holdover 0 1500).clock.holdoverLimit ≤ (s .holdover 0 1500).clock.holdoverCount) ∧
      openS.store.wf = true ∧ openS.bus.ready = true ∧ State.reset.bus.ready = false ∧
      (s .freeRun 0 0).clock.state = .freeRun := by decide
theorem test_witness_Corrections :
    let s (x : Int) (t : Nat) (p : TickPhase) := refS .locked fun c => { c with correction := x, tick := t, phase := p }
    isChangeTick 450000 255 882 = true ∧ 450000 / 510 = 882 ∧
      ((s 255 882 .single).clock.state ≠ .stopped ∧ (s 255 882 .single).clock.phase = .single ∧
        0 < (s 255 882 .single).clock.correction) ∧
      ((s 255 882 .held).clock.phase = .held ∧ (s 255 882 .held).clock.tick + 1 < rateTicks 10) ∧
      ((s (-255) 881 .single).clock.correction < 0 ∧
        isChangeTick 450000 (-255) ((s (-255) 881 .single).clock.tick + 1) = true) ∧
      ((s 0 449998 .single).clock.correction = 0 ∧ (s 0 449998 .single).clock.tick + 1 < rateTicks 10) ∧
      openS.clock.state = .stopped := by decide +kernel
theorem test_witness_LabelsWithoutDrop :
    (0 ≤ 10 ∧ labelDrop 0 = 0) ∧ (10 ≤ 10 ∧ labelDrop 10 = 0) ∧ labelValid 0 ⟨0, 0, 0, 0⟩ = true ∧
      labelValid 10 ⟨23, 59, 59, 59⟩ = true ∧ 0 < dayFrames 0 ∧ 2073599 < dayFrames 0 := by decide
theorem test_witness_LabelsWithDrop :
    labelValid 3 ⟨0, 1, 0, 2⟩ = true ∧ labelValid 8 ⟨23, 59, 59, 59⟩ = true ∧ 2589407 < dayFrames 3 ∧
      0 < dayFrames 8 ∧ ((23 ≤ 23 ∧ 59 ≤ 59) ∧ 59 % 10 ≠ 0) := by decide
theorem test_witness_FrameDifference :
    10 ≤ 10 ∧ (1036800 : Int) = (dayFrames 0 : Int) / 2 ∧ (dayFrames 0 : Int) / 2 < 1036801 ∧
      (1036801 : Int) < (dayFrames 0 : Int) ∧ ((0 : Int) = 0 + 0 * (dayFrames 0 : Int)) := by decide
theorem test_witness_OffsetsJumpsAndDrift :
    (0 < ((1 : FrameNo) - 0).toInt) ∧ (((0 : FrameNo) - 0).toInt ≤ 0) ∧
      Int.tdiv ((32767 - 0) * 1024) 1024 = 32767 ∧ (32767 : Int) < Int.tdiv ((32768 - 0) * 1024) 1024 ∧
      Int.tdiv ((-32768 - 0) * 1024) 1024 < -32767 ∧
      (2147483647 : Int) < nearestDay (dayFrames 0) 2000 * (rateTicks 0 : Int) + 0 - 0 ∧
      nearestDay (dayFrames 0) (-2000) * (rateTicks 0 : Int) + 0 - 0 < (-2147483647 : Int) ∧
      nearestDay (dayFrames 0) 1 * (rateTicks 0 : Int) + 0 - 0 ≤ (2147483647 : Int) := by decide
theorem test_witness_ComposedWords : 10 ≤ 10 ∧ labelValid 10 ⟨23, 59, 59, 59⟩ = true := by decide
/-- 10.7, R79: a composed word's check, and one with a field changed. -/
theorem test_composed_word :
    wordValid (composeWord ⟨23, 59, 59, 59⟩ 10 true 0xA5 0x5A) = true ∧
      wordValid (composeWord ⟨23, 59, 59, 59⟩ 10 true 0xA5 0x5A ^^^ 1#64 <<< 40) = false := by decide
theorem test_witness_PortSettings :
    (readPortSet 450000 { portArgs 0 with events := 65535, frames := 1, phase := 5 }).isSome = true ∧
      (readPortSet 450000 { portArgs 0 with events := 65535, frames := 1, phase := 6 }) = none ∧
      (readPortSet 450000 (portArgs 1)).isSome = true ∧ (readPortSet 450000 (portArgs 2)).isSome = true ∧
      (readPortSet 450000 { portArgs 2 with gate := 2 }) = none ∧
      (readPortSet 450000 { portArgs 1 with port := 12 }) = none := by decide
theorem test_witness_PortOrders :
    let v (s : State) := orderTaken 9 .atOnce (.portSet (portArgs 1)) (upTo 0 s)
    let held (s : State) : State :=
      { s with ports := s.ports.set 11 { Port.reset with pending := some .off, applyFrame := some 1 } }
    (upTo 0 openS).bus.ready = true ∧ readPortSet (rateTicks (v runS).clock.rate) (portArgs 3) = none ∧
      (readPortSet (rateTicks (v runS).clock.rate) (portArgs 1)).isSome = true ∧ (v openS).clock.state = .stopped ∧
      (v runS).clock.state ≠ .stopped ∧ (v (held runS)).ports[(11 : PortId)].pending ≠ none ∧
      (v runS).ports[(11 : PortId)].pending = none ∧ 12 ≤ (12 : Word).toNat ∧
      ((11 : PortId).val = (11 : Word).toNat) := by decide
theorem test_witness_PortsApply :
    let p (x : PortPending) := portS { Port.reset with pending := some x, applyFrame := some 0 } runS
    let both (s : State) : State :=
      { s with ports := s.ports.set 0 { Port.reset with pending := some .off, applyFrame := some 0 } }
    let e (f : Port → Port) (sh : Shape) (j t : Nat) : State :=
      portS (f { Port.reset with active := some (setting sh), nextEvent := j })
        { runS with clock := { runS.clock with tick := t } }
    let ahead (p : Port) : Port := { p with pending := some .off, applyFrame := some 1 }
    let now (p : Port) : Port := { p with pending := some .off, applyFrame := some 0 }
    let due (s : State) : Bool := (upTo 0 s).isDue (.unitEvent 1)
    let owed (s : State) (i : PortId) : Bool := (upTo 0 s).applyOwed i
    (owed (p .off) 1 = true ∧ owed (p .off) 0 = false ∧ owed (both (p .off)) 0 = true ∧ owed (both (p .off)) 1 = true) ∧
      owed (portS (ahead Port.reset) runS) 1 = false ∧ owed (p .off) 11 = false ∧
      (upTo 0 (p .off)).ports[(1 : PortId)].pending = some .off ∧
      (upTo 0 (p (.setting (setting .toggle)))).ports[(1 : PortId)].pending = some (.setting (setting .toggle)) ∧
      (due (e id (.pulse 5) 0 3) = true ∧ due (e id .toggle 1 225003) = true ∧ due (e id (.gate 1) 1 225003) = true ∧
        due (e id .toggle 0 2) = false ∧ due (e id .toggle 2 225003) = false) ∧
      (due (e ahead .toggle 1 225003) = true ∧ due (e now .toggle 1 225003) = false) ∧
      (upTo 0 runS).ports[(1 : PortId)].active = none ∧
      (upTo 0 (portS { Port.reset with pulse := some 0 } runS)).ports[(1 : PortId)].pulse = some 0 ∧
      (upTo 0 (portS { Port.reset with pulse := some 1 } runS)).ports[(1 : PortId)].pulse ≠ some 0 := by decide
theorem test_witness_TallyActions :
    (upTo 0 runS).bus.ready = true ∧ (upTo 0 runS).clock.state ≠ .stopped ∧ (upTo 0 openS).clock.state = .stopped ∧
      (upTo 0 runS).lines[(1 : LineId)].group = none ∧
      (upTo 0 (lineS { Line.reset with group := some 7 } runS)).lines[(1 : LineId)].group ≠ none ∧
      orderRow (.tallySetBind 0 9 .atOnce 8 7 1) =
        some (0, 9, .atOnce, .tallySet { line := 8, action := 4, value := 7, invert := 1 }) ∧
      8 ≤ (8 : Word).toNat ∧ (65535 : Word) ≠ 0 ∧ (1 : Word) ≠ 0 := by decide
theorem test_witness_TallyLines :
    let s (l : Line) := after 0 (lineS l runS)
    let ended := { Line.reset with level := true, pulse := some 0 }
    ((s ended).clock.state ≠ .stopped ∧ (s ended).lines[(1 : LineId)] = ended) ∧
      (s { ended with pending := some .toggle }).lines[(1 : LineId)].pending = some .toggle ∧
      (s { ended with pulse := some 1 }).lines[(1 : LineId)].pulse ≠ some 0 := by decide
/-- R39, R41: a bound line with a pending action, and a counting pulse with one, at a boundary. -/
theorem test_line_boundary :
    let isOpen : GroupId → Bool := fun _ => true
    Line.boundary isOpen { Line.reset with group := some 0, pending := some (.polarity true) } =
        { Line.reset with group := some 0, level := true, invert := true } ∧
      Line.boundary isOpen { Line.reset with level := true, pulse := some 2, pending := some .toggle } = Line.reset ∧
      Line.boundary isOpen { Line.reset with pulse := some 1, pending := some .set } =
        { Line.reset with pulse := some 0, pending := some .set } := by decide
theorem test_witness_TallyFired :
    let a (action : Word) : TallySetArgs := { line := 1, action := action, value := 5, invert := 0 }
    let held (action : Word) (s : State) : State :=
      upTo 0 (putSlotState (fileOrder 7 { timing := 1, due := 0, interval := 0, count := 0 } (.tallySet (a action))
        (entryS { entry with kind := orderKind (.tallySet (a action)) } s)) 7 3)
    let good (u : State) (action : Word) : Prop :=
      u.clock.state ≠ .stopped ∧ u.slotWord 7 0 = 3 ∧ u.slotWord 7 2 = ~~~ u.slotWord 7 1 ∧
        u.entryOf 7 = some { entry with kind := u.slotWord 7 1 } ∧
        (∀ y ∈ u.schedule, y.due = u.clock.frame → ¬ y.slot < 7) ∧
        readOrder (u.slotWord 7 1) (u.slotWord 7) = some (.tallySet (a action))
    (good (held 3 runS) 3 ∧ readTally (a 3) = some (1, .pulse 5) ∧ (held 3 runS).lines[(1 : LineId)].group = none) ∧
      (good (held 3 (lineS { Line.reset with group := some 0 } runS)) 3 ∧
        (held 3 (lineS { Line.reset with group := some 0 } runS)).lines[(1 : LineId)].group ≠ none) ∧
      (good (held 4 (lineS { Line.reset with group := some 0 } runS)) 4 ∧ readTally (a 4) = some (1, .bind 5 false)) := by
  decide
theorem test_witness_OutputOrders :
    let v (s : State) := orderTaken 9 .atOnce (.outputSet (outArgs 2)) (upTo 0 s)
    let busy (s : State) : State := { s with runs := s.runs.set 3 (some jamRun) }
    let late : Output :=
      { Output.reset with boundaryOwed := true, pending := some { Output.reset.settings with mode := .continuous } }
    let owing (s : State) : State := { s with outputs := s.outputs.set 3 late }
    readOutputSet (outArgs 3) = none ∧ (readOutputSet (outArgs 2)).isSome = true ∧
      (v (busy runS)).runs[(3 : OutputId)] ≠ none ∧ (v runS).runs[(3 : OutputId)] = none ∧
      readOutputSet { outArgs 2 with burst := 0 } = none ∧ readOutputSet { outArgs 2 with group := 8 } = none ∧
      (readOutputSet { outArgs 0 with group := 7, burst := 1 }).isSome = true ∧
      (v (owing runS)).outputs[(3 : OutputId)].boundaryOwed = true ∧
      (v (owing runS)).outputs[(3 : OutputId)].pending ≠ none ∧ (v runS).outputs[(3 : OutputId)].boundaryOwed = false ∧
      (v openS).clock.state = .stopped ∧ (v runS).clock.state ≠ .stopped ∧ (upTo 0 runS).bus.ready = true ∧
      (∀ k : Fin 16, (Vector.replicate 16 (255 : Word))[k].toNat ≤ 255) ∧
      (∃ k : Fin 16, 255 < (Vector.replicate 16 (256 : Word))[k].toNat) := by decide +kernel
/-- R68: a setting due at a boundary applies before an OUTPUT_SET taken at that instant becomes the pending one. -/
theorem test_outputSet_begins_the_boundary :
    ∃ t, exec (.outputSet 0 9 .atOnce { outArgs 2 with output := 2 }) (outS { Output.reset with
          boundaryOwed := true, pending := some { Output.reset.settings with mode := .continuous } } runS) = .next t ∧
      t.outputs[(2 : OutputId)].state = .continuous ∧ t.outputs[(2 : OutputId)].settings.mode = .continuous ∧
      (t.outputs[(2 : OutputId)].pending.any fun x => decide (x.mode = .burst)) = true :=
  ⟨_, rfl, by decide +kernel⟩
theorem test_witness_OutputsAtAWordBoundary :
    let word : SentWord := { bits := 1, nextCell := 128 }
    let x (st : OutputState) (left : Option Nat) (mode : OutputMode) (cut : Bool) : Output :=
      { Output.reset with state := st, boundaryOwed := true, wordsLeft := left, cut := cut, word := some word
                          settings := { Output.reset.settings with mode := mode } }
    let u (y : Output) (s : State) := upTo 0 (outS y s)
    (∀ st : OutputState, st ∈ [OutputState.waking, .bursting, .grace, .continuous, .silent, .off] →
        (u (x st (some 1) .burst false) runS).clock.state ≠ .stopped ∧
        (u (x st (some 1) .burst false) runS).outputs[(2 : OutputId)].boundaryOwed = true ∧
        (u (x st (some 1) .burst false) runS).outputs[(2 : OutputId)].state = st) ∧
      (u Output.reset runS).outputs[(2 : OutputId)].boundaryOwed = false ∧
      (u (x .off none .off false) openS).clock.state = .stopped ∧
      ((x .waking (some 1) .burst false).word ≠ none ∧ (x .waking (some 1) .burst false).finish.wordsLeft = some 0) ∧
      ((x .bursting (some 1) .continuous false).finish.nextState.state = .continuous ∧
        (x .bursting (some 1) .burst false).finish.nextState.state = .grace ∧
        (x .bursting (some 1) .burst true).finish.nextState.state = .silent ∧
        (x .grace (some 1) .burst false).finish.nextState.state = .silent ∧
        (x .waking (some 1) .burst false).finish.nextState.state = .bursting ∧
        (x .waking (some 1) .burst true).finish.nextState.state = .silent) ∧
      (Output.reset.word = none ∧ Output.reset.wordsLeft ≠ some 0 ∧ Output.reset.settings.grace = 8 ∧
        ({ Output.reset.settings with grace := 0 } : OutputSettings).grace = 0) ∧
      (x .silent none .burst false).startBurst.state = .waking ∧ (x .grace (some 3) .burst false).startBurst.state = .bursting ∧
      ({ x .grace (some 3) .burst false with pending := some { Output.reset.settings with mode := .burst } } : Output).settle.wordsLeft
        = some 3 ∧
      (u { x .silent none .burst false with request := some 5 } runS).outputs[(2 : OutputId)].request ≠ some runS.clock.frame := by
  decide +kernel
/-- R61, R65, R105: the word row ends a waking output's last word, enters BURSTING and gives the burst begun notice. -/
theorem test_wordBoundary_begins_a_burst :
    ∃ t, exec (.wordBoundary 0 2) (runOn jamRun (devS (device .tracking) (outS { Output.reset with
          state := .waking, boundaryOwed := true, wordsLeft := some 1, word := some { bits := 1, nextCell := 128 }
          settings := { Output.reset.settings with mode := .burst } } runS))) = .next t ∧
      t.outputs[(2 : OutputId)].state = .bursting ∧ t.outputs[(2 : OutputId)].wordsLeft = some 4 ∧
      (t.runs[(2 : OutputId)].any fun r => r.phase == .sending) = true ∧
      (t.devices[(3 : DeviceId)].any fun d => d.state == .jamming) = true ∧
      (t.outputs[(2 : OutputId)].word.any fun x => wordJam x.bits) = true :=
  ⟨_, rfl, by decide +kernel⟩
theorem test_witness_Cells :
    let s (c t : Nat) := upTo 0 (outS { Output.reset with word := some { bits := 1, nextCell := c } }
      { runS with clock := { runS.clock with tick := t } })
    let due (s : State) : Bool := s.isDue (.cellStart 2)
    due (s 0 0) = true ∧ due (s 1 7032) = true ∧ due (s 1 7031) = false ∧ due (s 128 0) = false ∧
      (s 0 0).mayCut = false ∧ (s 0 0).outputs[(2 : OutputId)].word = some { bits := 1, nextCell := 0 } := by decide
/-- Output 2 with its cell 32 at the current tick, port 1 with a pulse that ends there, and HREF's rise sampled so often; the
arrival crash-locks where it is permitted. -/
def cutS (permit : Bool) (samples : Nat) : State :=
  outS { Output.reset with word := some { bits := 1, nextCell := 32 } }
    (portS { Port.reset with active := some (setting .toggle), nextEvent := 1, pulse := some 0 }
      (hrefS (pin true samples) (refS .locking fun c =>
        { c with tick := 225000, crashEligible := true, crashPermit := permit })))
/-- R20, R21, R35, R71: a cell whose tick a crash lock due now takes from the frame is not sent before the arrival, with a take
open or not, and is due once the arrival is declined; so for a pulse's end. -/
theorem test_a_cut_tick_sends_nothing :
    let due (s : State) : Bool × Bool := ((upTo 0 s).isDue (.cellStart 2), (upTo 0 s).isDue (.pulseEnd 1))
    due (cutS true 3) = (false, false) ∧ due (cutS false 3) = (true, true) ∧ due (cutS true 2) = (true, true) ∧
      due (takeS take (cutS true 3)) = (false, false) ∧
      due (takeS take (cutS true 3)).hrefEdge = (true, true) ∧
      (cutS true 3).clock.settleOwed = false ∧ (cutS true 3).mayCut = true := by decide
/-- R21, R35: so for a unit event. -/
theorem test_a_cut_tick_makes_no_unit_event :
    let due (s : State) : Bool := (upTo 0 { s with clock := { s.clock with tick := 225003 } }).isDue (.unitEvent 1)
    due (cutS true 3) = false ∧ due (cutS false 3) = true := by decide
theorem test_witness_InputSet :
    (upTo 0 openS).bus.ready = true ∧ 8 ≤ (8 : Word).toNat ∧ 2 ≤ (2 : Word).toNat ∧
      (7 : InputId).val = (7 : Word).toNat ∧ (1 : Word).toNat ≤ 1 ∧
      (orderTaken 9 .atOnce (.inputSet ⟨7, 1, 0⟩) (upTo 0 openS)).inputs[(7 : InputId)].enable ≠ decide ((1 : Word) = 1) ∧
      (orderTaken 9 .atOnce (.inputSet ⟨7, 0, 0⟩) (upTo 0 openS)).inputs[(7 : InputId)].enable = decide ((0 : Word) = 1) := by
  decide
/-- An enabled, aligned input with an interval of n ticks behind it. -/
def hearing (n : Nat) : Input := { Input.reset with enable := true, receiver := .hunt, aligned := true, since := n }
theorem test_witness_LevelChanges :
    let u0 (n : Nat) (y : Input) : State := upTo 0 (wordPinS (pin true n) (inS y openS))
    let x (y : Input) : Input := (u0 3 y).inputs[(1 : InputId)]
    let last (v : Option Bool) : LastBit := { length := 14063, elapsed := 0, value := v }
    (u0 2 Input.reset).pins.words[(1 : InputId)].samples < 3 ∧ 3 ≤ (u0 3 Input.reset).pins.words[(1 : InputId)].samples ∧
      (x Input.reset).enable = false ∧ ((x (hearing 22999)).enable = true ∧ (x (hearing 22999)).since < 23000) ∧
      (x { hearing 0 with aligned := false }).aligned = false ∧
      ((x (hearing 4999)).aligned = true ∧ (x (hearing 4999)).since < 5000 ∧ (x (hearing 4999)).lastBit = none) ∧
      (5000 ≤ (x (hearing 5000)).since ∧ (x (hearing 11999)).since < 12000 ∧ (x (hearing 5000)).half = none) ∧
      (x { hearing 7000 with half := some 7000 }).half = some 7000 ∧ 12000 ≤ (x (hearing 12000)).since ∧
      (x { hearing 12000 with half := some 7000 }).half ≠ none ∧
      (x { hearing 5000 with awaitStart := true }).awaitStart = true ∧
      ((x { hearing 5000 with lastBit := some (last none) }).lastBit = some (last none) ∧ (last none).value = none) := by
  decide
theorem test_witness_DecodedBits :
    ((if syncBits.tail.length < 12 then syncBits.tail else syncBits.tail.drop 1) ++ [true] ≠ syncBits) ∧
      ((if (false :: syncBits.take 11).length < 12 then false :: syncBits.take 11
        else (false :: syncBits.take 11).drop 1) ++ [syncBits[11]!] = syncBits) ∧
      (List.replicate 62 true).length = 62 ∧ (syncBits.take 11).length = 11 ∧
      syncBits.take 11 ++ [syncBits[11]!] = syncBits ∧ syncBits.take 11 ++ [!syncBits[11]!] ≠ syncBits := by decide
theorem test_witness_QuietAndArrivals :
    let x (y : Input) : Input := (upTo 0 (inS y openS)).inputs[(1 : InputId)]
    let b (e : Nat) : LastBit := { length := 14063, elapsed := e, value := some true }
    let word := composeWord ⟨0, 0, 0, 0⟩ 10 false 0 0
    let bits := (List.range 63).map fun k => word.getLsbD k
    ((x (hearing 23000)).enable = true ∧ (x (hearing 23000)).since = 23000 ∧ (x (hearing 23000)).aligned = true) ∧
      (x (hearing 22999)).since < 23000 ∧
      ((x { hearing 0 with lastBit := some (b 14063) }).lastBit = some (b 14063) ∧ (b 14063).value = some true ∧
        (b 14063).length ≤ (b 14063).elapsed ∧ (x { hearing 0 with lastBit := some (b 14063) }).bound = none) ∧
      wordValid (wordOfBits (bits ++ [word.getLsbD 63])) = true ∧
      wordValid (wordOfBits (bits ++ [!word.getLsbD 63])) = false := by decide
theorem test_witness_Enrol :
    let v (a : DeviceEnrolArgs) (s : State) := orderTaken 9 .atOnce (.deviceEnrol a) (upTo 0 s)
    readEnrol (enrolArgs 16 0) = none ∧ (readEnrol (enrolArgs 15 1)).isSome = true ∧
      (readEnrol { enrolArgs 15 1 with soft := 1 }) = none ∧ readEnrol { enrolArgs 15 1 with driftWindow := 7 } = none ∧
      readEnrol { enrolArgs 15 1 with driftWindow := 257 } = none ∧
      (readEnrol { enrolArgs 15 0xFFFF with driftWindow := 256, hard := 2147483647, soft := 2147483647 }).isSome = true ∧
      (v (enrolArgs 15 1) (devS (device .tracking) runS)).devices[(3 : DeviceId)] = some (device .tracking) ∧
      (device .tracking).settings.input = some 1 ∧
      ((v (enrolArgs 3 1) (devS (device .jamming) runS)).devices[(3 : DeviceId)] = some (device .jamming)) ∧
      (v (enrolArgs 15 7) runS).devices[(15 : DeviceId)] = none ∧
      (v (enrolArgs 15 7) runS).inputTaken 15 (some 7) = false := by decide
theorem test_witness_Drop :
    let v (s : State) := orderTaken 9 .atOnce (.deviceDrop 3) (upTo 0 s)
    16 ≤ (16 : Word).toNat ∧ (3 : DeviceId).val = (3 : Word).toNat ∧ (v runS).devices[(3 : DeviceId)] = none ∧
      (v (devS (device .tracking) runS)).rosterFirst.devices[(3 : DeviceId)] = some (device .tracking) ∧
      (runOn { jamRun with phase := .verifying 0, waiting := 0x18 } runS).runs[(2 : OutputId)] =
        some { jamRun with phase := .verifying 0, waiting := 0x18 } ∧ dropFrom 0x18 3 ≠ 0 ∧
      inSet jamRun.listeners 3 = true := by decide
theorem test_witness_FaultAck :
    let v (s : State) := orderTaken 9 .atOnce (.faultAck 3) (upTo 0 s)
    (upTo 0 openS).bus.ready = true ∧ (v openS).devices[(3 : DeviceId)] = none ∧
      (v (devS (device .adrift) openS)).devices[(3 : DeviceId)] = some (device .adrift) ∧
      (device .adrift).capture = none ∧
      (devS { device .adrift with capture := some ⟨⟨0, 0⟩, 5, ⟨0, 0, 0, 0⟩⟩ } runS).devices[(3 : DeviceId)] =
        some { device .adrift with capture := some ⟨⟨0, 0⟩, 5, ⟨0, 0, 0, 0⟩⟩ } := by decide
theorem test_witness_Silence :
    let x (n : Nat) : Device := { device .tracking with sinceWord := n }
    let owing := after 0 (owedS { unlocked := false, count := true, check := false } (devS (x 5) runS))
    ((after 0 (devS (x 6) runS)).devices[(3 : DeviceId)] = some (x 6) ∧ (after 0 (devS (x 6) runS)).owed.count = false ∧
        owing.owed.count = true ∧ owing.counted.devices[(3 : DeviceId)] = some (x 6) ∧
        (x 6).settings.silence < (x 6).sinceWord) ∧
      (x 5).sinceWord ≤ (x 5).settings.silence ∧ (device .jamming).state = .jamming := by decide +kernel
theorem test_witness_WordsMoveTheRecord :
    let o := wordOffset 0 10 ⟨0, 0, 0, 0⟩ ⟨2, 100⟩ 0
    let judged : Device := { device .tracking with windowCount := 6, windowOffset := 0, windowFrame := 0, lastOffset := some 0 }
    openS.clock.state = .stopped ∧ runS.clock.state ≠ .stopped ∧ (9 : Nat) ≠ runS.clock.rate ∧ o = 100 ∧
      isJump 10 none o = false ∧ isJump 10 (some 60000) o = true ∧ o.natAbs ≤ settings.hard ∧
      settings.hard < (wordOffset 0 10 ⟨0, 0, 0, 0⟩ ⟨2, 101⟩ 0).natAbs ∧
      (wordOffset 0 10 ⟨0, 0, 0, 0⟩ ⟨2, 10⟩ 0).natAbs ≤ settings.soft ∧ settings.soft ≤ settings.hard ∧
      (∀ st : DeviceState, st ∈ [DeviceState.absent, .acquiring, .tracking, .adrift, .silent, .mismatch] →
        (devS (device st) runS).devices[(3 : DeviceId)] = some (device st)) ∧
      ({ device .adrift with validRun := 2 } : Device).validRun = 2 ∧ (device .adrift).validRun < 2 ∧
      settings.soft < (11 : Int).natAbs ∧ (11 : Int).natAbs ≤ settings.hard ∧
      (device .tracking).strikes + 1 < settings.threshold ∧
      settings.threshold ≤ ({ device .tracking with strikes := 1 } : Device).strikes + 1 ∧
      settings.policy = .none ∧ ({ settings with policy := .atOnce } : DeviceSettings).policy ≠ .none ∧ settings.jamOutput = some 2 ∧
      (judged.windowCount + 1 < settings.driftWindow ∧
        ¬ ({ judged with windowCount := 7 } : Device).windowCount + 1 < settings.driftWindow) ∧
      (driftEstimate 0 0 10 8 = some 1280 ∧ driftEstimate 0 8 10 8 = none) ∧ isJump 10 (some (-56240)) 10 = false ∧
      isJump 10 (some (-56241)) 10 = true := by decide
theorem test_witness_Jam :
    let v (s : State) := orderTaken 9 .atOnce (.jam 1 2) (upTo 0 s)
    let on (st : OutputState) := outS { Output.reset with
      settings := { Output.reset.settings with mode := .burst }, state := st } runS
    (upTo 0 openS).bus.ready = true ∧ 4 ≤ (4 : Word).toNat ∧ (v openS).clock.state = .stopped ∧
      (v runS).clock.state ≠ .stopped ∧ (v runS).outputs[(2 : OutputId)].settings.mode = .off ∧
      (v (on .waking)).outputs[(2 : OutputId)].state = .waking ∧
      ((v (on .silent)).outputs[(2 : OutputId)].settings.mode ≠ .off ∧ (v (on .silent)).runs[(2 : OutputId)] = none ∧
        (v (on .silent)).outputs[(2 : OutputId)].state ≠ .waking ∧
        (v (on .silent)).outputs[(2 : OutputId)].state ≠ .bursting ∧
        (v (on .silent)).outputs[(2 : OutputId)].request = none) ∧
      16 ≤ (16 : Word).toNat ∧ 2 ≤ (2 : Word).toNat ∧ (device .absent).settings.jamOutput = some 2 := by decide +kernel
theorem test_witness_Runs :
    let on (r : Run) := runOn r (outS { Output.reset with
      settings := { Output.reset.settings with mode := .burst }, state := .silent } runS)
    let r (k : Nat) : Run := { jamRun with phase := .verifying 0, attempts := k }
    (on jamRun).runs[(2 : OutputId)] = some jamRun ∧ jamRun.waiting ≠ 0 ∧ inSet jamRun.waiting 3 = true ∧
      ((upTo 0 (on (r 2))).clock.state ≠ .stopped ∧ (upTo 0 (on (r 2))).runs[(2 : OutputId)] = some (r 2) ∧
        (r 2).attempts < (upTo 0 (on (r 2))).outputs[(2 : OutputId)].settings.attempts ∧
        (upTo 0 (on (r 2))).outputs[(2 : OutputId)].request = none) ∧
      (upTo 0 (on (r 3))).outputs[(2 : OutputId)].settings.attempts ≤ (r 3).attempts ∧
      ({ jamRun with waiting := 0 } : Run).waiting = 0 ∧ jamRun.origin = .order 4 false false true ∧
      (reportsWaiting (on (r 2)).writer.queue + 17 ≤ 64 ∧ (on (r 2)).bus.ready = true) ∧
      (takeS { take with participants := [⟨3, .tracking, none⟩] } runS).groups[(0 : GroupId)].current.any
        (fun k => k.listsAny jamRun.listeners) = true := by decide
/-- R108: words that verify device 3, the last pending and not the last, and one that does not. -/
theorem test_witness_VerifyingWords :
    let r : Run := { jamRun with phase := .verifying 9 }
    let s := runOn r (devS (device .jamming) runS)
    s.devices[(3 : DeviceId)] = some (device .jamming) ∧ (device .jamming).settings.jamOutput = some 2 ∧
      s.runs[(2 : OutputId)] = some r ∧ s.clock.state ≠ .stopped ∧ inSet r.waiting 3 = true ∧ dropFrom r.waiting 3 = 0 ∧
      dropFrom ({ r with waiting := 0x18 } : Run).waiting 3 ≠ 0 ∧
      (wordOffset 0 10 ⟨0, 0, 0, 0⟩ ⟨2, 10⟩ 0).natAbs ≤ (device .jamming).settings.soft ∧
      (device .jamming).settings.soft < (wordOffset 0 10 ⟨0, 0, 0, 0⟩ ⟨2, 11⟩ 0).natAbs := by decide
/-- R113: device 3 is the last pending listener of the run on output 2 and of no other run. -/
theorem test_witness_LeaveNotice :
    let r : Run := { jamRun with phase := .verifying 9 }
    let s := runOn r (devS (device .jamming) runS)
    s.runs[(2 : OutputId)] = some r ∧ inSet r.listeners 3 = true ∧ inSet r.waiting 3 = true ∧ dropFrom r.waiting 3 = 0 ∧
      (∀ p : OutputId, p ≠ 2 → s.runs[p] = none) ∧
      ∀ e : DeviceId, (s.devices[e].any fun x => x.jamWanted) = false := by decide +kernel
/-- R116: the automatic check of output 2 starts a run, and does not. -/
theorem test_witness_AutoCheck :
    let wanted : Device := { device .tracking with jamWanted := true }
    let s := devS wanted (outS { Output.reset with
      settings := { Output.reset.settings with mode := .burst }, state := .silent } runS)
    let deferred : Device := { wanted with settings := { settings with policy := .deferInTake } }
    let open_ := takeS { take with participants := [⟨3, .tracking, none⟩] } s
    (s.clock.state ≠ .stopped ∧ s.runs[(2 : OutputId)] = none ∧ s.outputs[(2 : OutputId)].settings.mode ≠ .off ∧
        s.devices[(3 : DeviceId)] = some wanted ∧ wanted.settings.jamOutput = some 2 ∧ wanted.jamWanted = true ∧
        wanted.settings.policy ≠ .deferInTake ∧ s.outputs[(2 : OutputId)].state ≠ .waking ∧
        s.outputs[(2 : OutputId)].state ≠ .bursting ∧ s.outputs[(2 : OutputId)].request = none) ∧
      (s.autoAllowed 2 = true ∧ open_.autoAllowed 2 = true ∧ (devS deferred s).autoAllowed 2 = true ∧
        (devS deferred open_).autoAllowed 2 = false ∧ (devS (device .tracking) s).autoAllowed 2 = false) := by
  decide +kernel
/-- R110, R111: a run that ends with a failed listener that is JAMMING, by an order and by the automatic check. -/
theorem test_witness_RunEnds :
    let s (origin : RunOrigin) := runOn { jamRun with origin := origin } (devS (device .jamming) runS)
    (s .auto).devices[(3 : DeviceId)] = some (device .jamming) ∧ inSet jamRun.waiting 3 = true ∧
      (s .auto).runs[(2 : OutputId)] = some { jamRun with origin := .auto } ∧
      (s (.order 4 true false false)).runs[(2 : OutputId)] ≠ none ∧ (s .auto).bus.ready = true ∧
      reportsWaiting (s .auto).writer.queue + 2 ≤ 64 := by decide
theorem test_witness_MarkSetAndGroupSet :
    (upTo 0 openS).bus.ready = true ∧ 16 ≤ (16 : Word).toNat ∧ readRole 1 8 = none ∧ 3 ≤ (3 : Word).toNat ∧
      256 ≤ (256 : Word).toNat ∧ readRole 5 15 = some (.tally 15) ∧ readRole 0 99 = some .disabled ∧
      readEdge 2 = some .both ∧ (255 : Word).toNat ≤ 255 ∧ (15 : MarkId).val = (15 : Word).toNat ∧
      8 ≤ (8 : Word).toNat ∧ (7 : GroupId).val = (7 : Word).toNat ∧ readRole 6 0 = none ∧ readRole 5 16 = none ∧
      readRole 4 7 = some (.generic 7) ∧ readEdge 3 = none := by decide
theorem test_witness_MarkEdges :
    let m : MarkInput := { MarkInput.reset with role := .clap 0, edge := .both }
    let s (x : MarkInput) := upTo 0 (markPinS (pin true 3) (markS x runS))
    let out : MarkInput := { m with windowBase := 1, windowLimit := 1 }
    let at_ : MarkInput := { m with windowBase := 0, windowLimit := 0 }
    ((upTo 0 (markPinS (pin true 2) runS)).pins.marks[(5 : MarkId)].samples < 3 ∧
        3 ≤ (s m).pins.marks[(5 : MarkId)].samples ∧ (s m).pins.marks[(5 : MarkId)].level = false ∧
        (upTo 0 (markPinS (pin false 3) runS)).pins.marks[(5 : MarkId)].level = true) ∧
      ((s MarkInput.reset).marks[(5 : MarkId)].role = .disabled ∧ (upTo 0 openS).clock.state = .stopped ∧
        (s { m with reArm := some 9 }).marks[(5 : MarkId)].reArm ≠ none ∧ ({ m with edge := .fall } : MarkInput).edge = .fall) ∧
      ((s m).marks[(5 : MarkId)] = m ∧ (s m).clock.state ≠ .stopped ∧ m.windowLimit.toNat < m.windowBase.toNat) ∧
      ((s out).clock.frame.toNat < out.windowBase.toNat ∧ ¬ out.windowLimit.toNat < out.windowBase.toNat) ∧
      (at_.windowBase.toNat ≤ (s at_).clock.frame.toNat ∧ (s at_).clock.frame.toNat ≤ at_.windowLimit.toNat) ∧
      (s m).groups[(0 : GroupId)].current = none ∧ (upTo 0 (takeS take (markS m runS))).groups[(0 : GroupId)].current = some take ∧
      ((s { m with remaining := 1 }).marks[(5 : MarkId)].remaining = 1 ∧ m.remaining = 0) ∧
      (s { m with reArm := some 0 }).marks[(5 : MarkId)].reArm = some (s m).clock.frame := by decide
theorem test_witness_MarksOpenAndClose :
    (markS { MarkInput.reset with role := .takeStart 0 } runS).marks[(5 : MarkId)].role = .takeStart 0 ∧
      runS.groups[(0 : GroupId)].current = none ∧ (takeS take runS).groups[(0 : GroupId)].current = some take ∧
      (markS { MarkInput.reset with role := .takeEnd 0 } runS).marks[(5 : MarkId)].role = .takeEnd 0 ∧
      (markS { MarkInput.reset with role := .tally 3 } runS).marks[(5 : MarkId)].role = .tally 3 ∧
      take.lists 3 = false ∧ ({ take with participants := [⟨3, .tracking, none⟩] } : Take).lists 3 = true ∧
      take.marks.length < 8 ∧
      8 ≤ ({ take with marks := List.replicate 8 ⟨.inject, 0, ⟨0, 0⟩⟩ } : Take).marks.length := by decide
theorem test_witness_TakeOrders :
    let v (s : State) := orderTaken 9 .atOnce (.takeOpen { group := num 0, tag := 5 }) (upTo 0 s)
    (upTo 0 runS).bus.ready = true ∧ (v openS).clock.state = .stopped ∧ (v runS).clock.state ≠ .stopped ∧
      (v (takeS take runS)).groups[(0 : GroupId)].current = some take ∧ (v runS).groups[(0 : GroupId)].current = none ∧
      8 ≤ (8 : Word).toNat := by decide
theorem test_witness_Cancel :
    let v (s : State) := orderTaken 9 .atOnce (.cancel (num 7)) (upTo 0 s)
    let s := heldSlot (entryS { entry with due := 1 } runS)
    (upTo 0 s).bus.ready = true ∧ (v runS).entryOf 7 = none ∧ (v s).entryOf 7 = some { entry with due := 1 } ∧
      ((v s).slotWord 7 0 = 3 ∧ (v s).slotWord 7 1 = entry.kind ∧ (v s).slotWord 7 2 = ~~~ entry.kind) ∧
      ¬ ((v (withWord 0x01E0 2 s)).slotWord 7 0 = 3) ∧ 64 ≤ (64 : Word).toNat := by decide
theorem test_witness_Queries :
    (upTo 0 openS).bus.ready = true ∧ readArea 0x7FFF 1 = some (0x7FFF, 1) ∧ readArea 0x4900 14080 = some (0x4900, 14080) ∧
      readArea 0x7FFF 2 = none ∧ readArea 0x48FF 1 = none ∧ readArea 0x4900 0 = none ∧
      (upTo 0 openS).devices[(3 : DeviceId)] = none ∧
      (orderTaken 9 .atOnce (.queryDevice { address := 0x4900, capacity := 1, subject := 3 })
        (upTo 0 (devS (device .absent) openS))).rosterFirst.devices[(3 : DeviceId)] = some (device .absent) ∧
      (device .absent).settings.input = some 1 ∧ ({ settings with input := none } : DeviceSettings).input = none := by decide
theorem test_witness_Scans :
    let s (n : SlotId) (f : State → State) : State :=
      f { openS with scanner := { point := some n, requested := false, idle := 0 } }
    (upTo 0 openS).scanner.point = none ∧ (upTo 0 (s 63 id)).scanner.point = some 63 ∧ (upTo 0 (s 63 id)).slotWord 63 0 ≠ 1 ∧
      (upTo 0 (s 63 (fileOrder 63 .atOnce .clockStop))).slotWord 63 0 = 1 ∧
      (let v := beginTake 63 (upTo 0 (s 63 (fileOrder 63 .atOnce .clockStop)))
       v.slotWord 63 2 = ~~~ v.slotWord 63 1 ∧ readOrder (v.slotWord 63 1) (v.slotWord 63) = some .clockStop) ∧
      (let v := beginTake 0 (upTo 0 (s 0 fun q => withWord 0x0101 9 (fileOrder 0 .atOnce .clockStop q)))
       v.slotWord 0 2 ≠ ~~~ v.slotWord 0 1) ∧
      readOrder 9 (fun _ => 0) = none := by decide
theorem test_witness_Firings :
    let again : Repeating := { interval := 1, left := some 1, fired := 0, missed := 0, firstFiring := none
                               lastResult := none, late := false }
    let s (e : Entry) := upTo 0 (heldSlot (entryS e runS))
    ((s entry).clock.state ≠ .stopped ∧ (s entry).entryOf 7 = some entry ∧ entry.due = (s entry).clock.frame ∧
        (∀ x ∈ (s entry).schedule, x.due = (s entry).clock.frame → ¬ x.slot < 7)) ∧
      ((s entry).slotWord 7 0 = 3 ∧ (s entry).slotWord 7 1 = entry.kind ∧ (s entry).slotWord 7 2 = ~~~ entry.kind ∧
        readOrder entry.kind ((s entry).slotWord 7) = some .clockStop ∧ entry.again = none) ∧
      ¬ ((upTo 0 (entryS entry runS)).slotWord 7 0 = 3) ∧
      (s { entry with again := some again }).entryOf 7 = some { entry with again := some again } := by decide
theorem test_witness_Reports :
    let s (gap : Nat) (read : Word) (w : Word) : State :=
      upTo 0 (withWord 0x10 read (queueS [.report gapReport] { openS with
        writer := { openS.writer with gap := gap, written := w } }))
    let unread (s : State) : Nat := (s.writer.written - s.word 0x0010).toNat
    ((s 0 0 1023).bus.ready = true ∧ (s 0 0 1023).writer.queue = [.report gapReport] ∧ unread (s 0 0 1023) < 1024 ∧
        (s 0 0 1023).writer.gap = 0) ∧
      1024 ≤ unread (s 0 0 1024) ∧ (0 < (s 1 0 1022).writer.gap ∧ unread (s 1 0 1022) < 1023) ∧
      (unread (s 1 0 1023) = 1023 ∧ (s 1 0 1023).store.wf = true) := by decide
theorem test_witness_Completions :
    let s := upTo 0 (queueS [.completion lastCompletion] openS)
    s.store.wf = true ∧ s.bus.ready = true ∧ s.writer.queue = [.completion lastCompletion] ∧
      (lastCompletion.record.all fun x => decide (0x4900 ≤ x.address ∧ x.address + x.capacity ≤ 0x8000)) = true := by
  decide

end Sys2Proof.Tests
end

section
/-! SUPPORT. The Label Unit of 03_labels_and_offsets: what its computations answer (R44 to R51), and the statements about
labels, label counts and frame differences. -/

namespace Sys2Proof.Machine

/-! ## The rate code table (R3, R47) -/

theorem labelDrop_lt_labelBase (r : Nat) : labelDrop r < labelBase r := by
  match r with
  | 0 | 1 | 2 | 3 | 4 | 5 | 6 | 7 | 8 => decide
  | _ + 9 => simp [labelDrop, labelBase]

theorem labelBase_pos (r : Nat) : 0 < labelBase r := Nat.zero_lt_of_lt (labelDrop_lt_labelBase r)

theorem dayFrames_pos (r : Nat) : 0 < dayFrames r := by
  have := labelDrop_lt_labelBase r
  unfold dayFrames
  omega

theorem dayFrames_even (r : Nat) : dayFrames r % 2 = 0 := by
  unfold dayFrames
  omega

/-- R47, R49: the day holds 144 blocks of ten label minutes. -/
theorem dayFrames_eq_blocks (r : Nat) :
    dayFrames r = 144 * (10 * 60 * labelBase r - 9 * labelDrop r) := by
  unfold dayFrames
  omega

/-! ## Labels and nominal counts (R44, R45, R48) -/

theorem labelValid_iff {r : Nat} {l : Label} :
    labelValid r l = true ↔ r ≤ 10 ∧ l.hh ≤ 23 ∧ l.mm ≤ 59 ∧ l.ss ≤ 59 ∧ l.ff < labelBase r ∧
      labelSkipped r l = false := by
  simp [labelValid, and_assoc]

theorem labelSkipped_iff {r : Nat} {l : Label} :
    labelSkipped r l = true ↔ l.ss = 0 ∧ l.ff < labelDrop r ∧ l.mm % 10 ≠ 0 := by
  simp [labelSkipped, and_assoc]

theorem labelSkipped_of_no_drop {r : Nat} (h : labelDrop r = 0) (l : Label) : labelSkipped r l = false := by
  simp [labelSkipped, h]

/-- The seconds since midnight, times the base, plus the frame, by whole minutes. -/
theorem nominalCount_eq_minutes (b : Nat) (l : Label) :
    nominalCount b l = 60 * b * (60 * l.hh + l.mm) + (l.ss * b + l.ff) := by
  unfold nominalCount
  ring

theorem nominalCount_lt {b : Nat} {l : Label} (hh : l.hh ≤ 23) (mm : l.mm ≤ 59) (ss : l.ss ≤ 59) (ff : l.ff < b) :
    nominalCount b l < 86400 * b := by
  have seconds : ((l.hh * 60 + l.mm) * 60 + l.ss) * b ≤ 86399 * b := Nat.mul_le_mul_right b (by omega)
  unfold nominalCount
  omega

theorem nominalCount_nominalLabel (b n : Nat) : nominalCount b (nominalLabel b n) = n := by
  have seconds : (n / b / 3600 * 60 + n / b / 60 % 60) * 60 + n / b % 60 = n / b := by omega
  simp only [nominalCount, nominalLabel, seconds, Nat.div_add_mod']

/-- R48: the label of a count within the day has its fields in range. -/
theorem nominalLabel_in_range {b n : Nat} (hb : 0 < b) (hn : n < 86400 * b) :
    (nominalLabel b n).hh ≤ 23 ∧ (nominalLabel b n).mm ≤ 59 ∧ (nominalLabel b n).ss ≤ 59 ∧
      (nominalLabel b n).ff < b := by
  have seconds : n / b < 86400 := Nat.div_lt_of_lt_mul (by omega)
  have frame : n % b < b := Nat.mod_lt n hb
  simp only [nominalLabel]
  omega

theorem nominalLabel_minutes (b n : Nat) :
    60 * (nominalLabel b n).hh + (nominalLabel b n).mm = n / (60 * b) := by
  have minutes : n / (60 * b) = n / b / 60 := by rw [Nat.mul_comm, Nat.div_div_eq_div_mul]
  simp only [nominalLabel, minutes]
  omega

/-- The frames of the label's minute up to the label. -/
theorem nominalLabel_frame_of_minute (b n : Nat) :
    (nominalLabel b n).ss * b + (nominalLabel b n).ff = n % (60 * b) := by
  have whole := nominalCount_eq_minutes b (nominalLabel b n)
  rw [nominalCount_nominalLabel, nominalLabel_minutes] at whole
  have := Nat.div_add_mod n (60 * b)
  omega

/-! ## Label counts (R45, R46) -/

/-- R46: the label count and the numbers dropped since midnight make up the nominal count. -/
theorem labelCount_add_dropped (r : Nat) (l : Label) :
    labelCount r l + labelDrop r * ((60 * l.hh + l.mm) - (60 * l.hh + l.mm) / 10) = nominalCount (labelBase r) l := by
  have drop_le : labelDrop r ≤ 60 * labelBase r := by have := labelDrop_lt_labelBase r; omega
  have dropped_le : labelDrop r * ((60 * l.hh + l.mm) - (60 * l.hh + l.mm) / 10) ≤
      60 * labelBase r * (60 * l.hh + l.mm) := Nat.mul_le_mul drop_le (Nat.sub_le _ _)
  have whole := nominalCount_eq_minutes (labelBase r) l
  unfold labelCount
  dsimp only
  omega

/-- R45. -/
theorem labelCount_of_no_drop {r : Nat} (h : labelDrop r = 0) (l : Label) :
    labelCount r l = nominalCount (labelBase r) l := by
  simp [labelCount, h]

theorem labelCount_midnight (r : Nat) : labelCount r { hh := 0, mm := 0, ss := 0, ff := 0 } = 0 := by
  simp [labelCount, nominalCount]

theorem labelCount_last (r : Nat) :
    labelCount r { hh := 23, mm := 59, ss := 59, ff := labelBase r - 1 } = dayFrames r - 1 := by
  have := labelBase_pos r
  simp only [labelCount, nominalCount, dayFrames]
  omega

/-- R46: the last label that a minute skips would count as the last frame of the minute before it. -/
theorem labelCount_last_skipped {r hh mm : Nat} (hd : 0 < labelDrop r) (hm : mm % 10 ≠ 0) :
    labelCount r { hh := hh, mm := mm, ss := 0, ff := labelDrop r - 1 } =
      labelCount r { hh := hh, mm := mm - 1, ss := 59, ff := labelBase r - 1 } := by
  obtain ⟨m, rfl⟩ : ∃ m, mm = m + 1 := ⟨mm - 1, by omega⟩
  have here := labelCount_add_dropped r { hh := hh, mm := m + 1, ss := 0, ff := labelDrop r - 1 }
  have before := labelCount_add_dropped r { hh := hh, mm := m, ss := 59, ff := labelBase r - 1 }
  have one_more : (60 * hh + (m + 1)) - (60 * hh + (m + 1)) / 10 = ((60 * hh + m) - (60 * hh + m) / 10) + 1 := by
    omega
  rw [nominalCount_eq_minutes] at here before
  dsimp only at here before
  rw [one_more, ← Nat.add_assoc (60 * hh), Nat.mul_add_one, Nat.mul_add_one] at here
  have := labelBase_pos r
  rw [Nat.add_sub_cancel]
  omega

/-! ## Nominal numbers (R49) -/

/-- R49: the nominal number of a label count lies in minute k of the ten-minute block of the count. A minute that drops
numbers is entered past them, and the numbers dropped so far are what the nominal number is ahead by. -/
theorem nominalNumber_in_block {b d : Nat} (hd : d < b) (n : Nat) :
    ∃ k f, k < 10 ∧ f < 60 * b ∧ (k ≠ 0 → d ≤ f) ∧
      nominalNumber b d n = 60 * b * (10 * (n / (10 * 60 * b - 9 * d)) + k) + f ∧
      n + d * (9 * (n / (10 * 60 * b - 9 * d)) + k) = nominalNumber b d n := by
  have block : 10 * 60 * b - 9 * d = 10 * (60 * b - d) + d := by omega
  have minute : 60 * b = (60 * b - d) + d := by omega
  unfold nominalNumber
  dsimp only
  rw [block]
  generalize 60 * b - d = q at minute ⊢
  have hq : 0 < q := by omega
  have whole := Nat.div_add_mod n (10 * q + d)
  have inBlock : n % (10 * q + d) < 10 * q + d := Nat.mod_lt n (by omega)
  generalize n / (10 * q + d) = blocks at whole ⊢
  generalize n % (10 * q + d) = m at whole inBlock ⊢
  rw [minute, ← whole]
  split
  case isTrue first =>
    exact ⟨0, m, by omega, by omega, by omega, by ring, by ring⟩
  case isFalse later =>
    have dropped := Nat.div_add_mod (m - d) q
    have inMinute : (m - d) % q < q := Nat.mod_lt _ hq
    have minutes : (m - d) / q < 10 := Nat.div_lt_of_lt_mul (by omega)
    have m_eq : m = q * ((m - d) / q) + (m - d) % q + d := by omega
    refine ⟨(m - d) / q, (m - d) % q + d, minutes, by omega, by omega, ?_, by ring⟩
    generalize (m - d) / q = k at m_eq
    generalize (m - d) % q = f at m_eq
    subst m_eq
    ring

/-- R49: the nominal number of a count within the day lies within the nominal day. -/
theorem nominalNumber_lt {b d n : Nat} (hd : d < b) (hn : n < 144 * (10 * 60 * b - 9 * d)) :
    nominalNumber b d n < 86400 * b := by
  obtain ⟨k, f, hk, hf, -, nominal, -⟩ := nominalNumber_in_block hd n
  have blocks : n / (10 * 60 * b - 9 * d) < 144 := Nat.div_lt_of_lt_mul (by omega)
  have minutes : 60 * b * (10 * (n / (10 * 60 * b - 9 * d)) + k) ≤ 60 * b * 1439 :=
    Nat.mul_le_mul_left _ (by omega)
  omega

/-- With no drop every number is its own nominal number. -/
theorem nominalNumber_of_no_drop (b n : Nat) : nominalNumber b 0 n = n := by
  simp [nominalNumber]

/-! ## The label of a label count (R48, R49) -/

theorem labelOf_eq (r n : Nat) :
    labelOf r n = nominalLabel (labelBase r) (nominalNumber (labelBase r) (labelDrop r) n) := by
  unfold labelOf
  split
  case isTrue h => rw [h, nominalNumber_of_no_drop]
  case isFalse => rfl

/-- R48, R49: the minute of the label of a count, and its frame in that minute. -/
theorem labelOf_minute (r n : Nat) :
    ∃ D k, k < 10 ∧ 60 * (labelOf r n).hh + (labelOf r n).mm = 10 * D + k ∧
      (k ≠ 0 → labelDrop r ≤ (labelOf r n).ss * labelBase r + (labelOf r n).ff) ∧
      n + labelDrop r * (9 * D + k) = nominalCount (labelBase r) (labelOf r n) := by
  obtain ⟨k, f, hk, hf, entered, nominal, ahead⟩ := nominalNumber_in_block (labelDrop_lt_labelBase r) n
  refine ⟨n / (10 * 60 * labelBase r - 9 * labelDrop r), k, hk, ?_, fun hk0 => ?_, ?_⟩
  · rw [labelOf_eq, nominalLabel_minutes, nominal, Nat.mul_add_div (by omega), Nat.div_eq_of_lt hf, Nat.add_zero]
  · rw [labelOf_eq, nominalLabel_frame_of_minute, nominal, Nat.mul_add_mod, Nat.mod_eq_of_lt hf]
    exact entered hk0
  · rw [labelOf_eq, nominalCount_nominalLabel, ahead]

/-- R46, R48, R49: the label count of the label of n is n again. -/
theorem labelCount_labelOf (r n : Nat) : labelCount r (labelOf r n) = n := by
  obtain ⟨D, k, hk, minutes, -, ahead⟩ := labelOf_minute r n
  have whole := labelCount_add_dropped r (labelOf r n)
  have begun : 10 * D + k - (10 * D + k) / 10 = 9 * D + k := by omega
  rw [minutes, begun, ← ahead] at whole
  exact Nat.add_right_cancel whole

theorem labelOf_not_skipped (r n : Nat) : labelSkipped r (labelOf r n) = false := by
  obtain ⟨D, k, hk, minutes, entered, -⟩ := labelOf_minute r n
  rw [Bool.eq_false_iff, ne_eq, labelSkipped_iff]
  rintro ⟨ss, ff, mm⟩
  rw [ss] at entered
  omega

/-- R48, R49: the label of a count within the day is valid. -/
theorem labelOf_valid {r n : Nat} (hr : r ≤ 10) (hn : n < dayFrames r) : labelValid r (labelOf r n) = true := by
  rw [dayFrames_eq_blocks] at hn
  have nominal := nominalNumber_lt (labelDrop_lt_labelBase r) hn
  obtain ⟨hh, mm, ss, ff⟩ := nominalLabel_in_range (labelBase_pos r) nominal
  rw [← labelOf_eq] at hh mm ss ff
  exact labelValid_iff.mpr ⟨hr, hh, mm, ss, ff, labelOf_not_skipped r n⟩

/-- Settles O29: without drop the label count is the nominal count, and the label of a count is the nominal label. -/
theorem labelsWithoutDrop : Obligations.LabelsWithoutDrop := by
  intro r hr hd b
  have day : 86400 * b = dayFrames r := by simp [dayFrames, hd, b]
  refine ⟨fun l valid => ?_, labelCount_midnight r, day ▸ labelCount_last r, day, fun n hn => ?_⟩
  · obtain ⟨-, hh, mm, ss, ff, -⟩ := labelValid_iff.mp valid
    have within := nominalCount_lt hh mm ss ff
    rw [labelCount_of_no_drop hd]
    exact ⟨rfl, Nat.le_sub_one_of_lt within⟩
  · have valid := labelOf_valid hr hn
    obtain ⟨-, hh, -⟩ := labelValid_iff.mp valid
    have fields : labelOf r n = nominalLabel b n := by rw [labelOf_eq, hd, nominalNumber_of_no_drop]
    exact ⟨fields, valid, labelCount_labelOf r n, hh⟩

/-- Settles O30: with drop d the label count leaves out the numbers dropped since midnight, and the label of a count is
the nominal label of its nominal number. -/
theorem labelsWithDrop : Obligations.LabelsWithDrop := by
  intro r d code b p q
  obtain ⟨hd, hd0, hr⟩ : labelDrop r = d ∧ 0 < d ∧ r ≤ 10 := by
    obtain ⟨rfl, rfl⟩ | ⟨rfl, rfl⟩ := code <;> decide
  subst hd
  refine ⟨fun l _ => labelCount_add_dropped r l, ?_, labelCount_last r, dayFrames_eq_blocks r, ?_, ?_, fun n hn => ?_⟩
  · rintro ⟨hh, mm, ss, ff⟩ - - hm rfl rfl
    have skipped : labelSkipped r ⟨hh, mm, 0, labelDrop r - 1⟩ = true :=
      labelSkipped_iff.mpr ⟨rfl, Nat.sub_one_lt_of_lt hd0, hm⟩
    refine ⟨?_, labelCount_last_skipped hd0 hm⟩
    simp [labelValid, skipped]
  · rintro rfl
    decide
  · rintro rfl
    decide
  · exact ⟨labelOf_eq r n, labelOf_valid hr hn, labelOf_not_skipped r n, labelCount_labelOf r n⟩

/-! ## The frame difference (R51) -/

theorem nearestDay_in_range {day : Nat} (positive : 0 < day) (even : day % 2 = 0) (x : Int) :
    -((day : Int) / 2) ≤ nearestDay day x ∧ nearestDay day x ≤ (day : Int) / 2 - 1 := by
  have low := Int.emod_nonneg (x + (day / 2 : Nat)) (b := day) (by omega)
  have high := Int.emod_lt_of_pos (x + (day / 2 : Nat)) (b := day) (by omega)
  unfold nearestDay
  omega

/-- R51: no other number of the range differs from x by a whole number of days. -/
theorem eq_nearestDay_of_congr {day : Nat} (even : day % 2 = 0) {x y : Int} (low : -((day : Int) / 2) ≤ y)
    (high : y ≤ (day : Int) / 2 - 1) (congr : ∃ k : Int, y = x + k * day) : y = nearestDay day x := by
  obtain ⟨k, hk⟩ := congr
  have shifted : x + (day / 2 : Nat) = (y + (day / 2 : Nat)) + -k * day := by rw [hk]; ring
  have inDay : (y + (day / 2 : Nat)) % (day : Int) = y + (day / 2 : Nat) :=
    Int.emod_eq_of_lt (by omega) (by omega)
  rw [nearestDay, shifted, Int.add_mul_emod_self_right, inDay]
  omega

/-- R51: the frame difference differs from x by a whole number of days. -/
theorem nearestDay_congr (day : Nat) (x : Int) : ∃ k : Int, nearestDay day x = x + k * day := by
  refine ⟨-((x + (day / 2 : Nat)) / day), ?_⟩
  rw [nearestDay, Int.emod_def]
  ring

/-- Settles O31: the frame difference is the one number of the range that differs from x by whole days, which gives its
values at half a day, at 0 and beyond half a day. -/
theorem frameDifferenceIsTheNearerWay : Obligations.FrameDifferenceIsTheNearerWay := by
  intro r x _ day delta
  have positive := dayFrames_pos r
  have even := dayFrames_even r
  obtain ⟨low, high⟩ := nearestDay_in_range positive even x
  have unique := fun y => eq_nearestDay_of_congr (x := x) (y := y) even
  refine ⟨by omega, low, high, nearestDay_congr _ x, unique, fun half => ?_, fun zero => ?_, fun past within => ?_⟩
  · exact (unique _ (by omega) (by omega) ⟨-1, by omega⟩).symm
  · exact (unique 0 (by omega) (by omega) ⟨0, by omega⟩).symm
  · have back := unique (-(day - x)) (by omega) (by omega) ⟨-1, by omega⟩
    exact ⟨back.symm, by omega⟩

end Sys2Proof.Machine
end

section
/-! SUPPORT. FAULT_ACK and the fault capture of 05_time_word_inputs_and_the_device_roster (R84, R94): how an order carried out
at once completes its slot, what FAULT_ACK answers, and what a hard breach makes of a record. -/

namespace Sys2Proof.Machine

open State

/-! ## Numbers out of and within range -/

theorem readFin_out_of_range {n : Nat} {w : Word} (h : n ≤ w.toNat) : readFin n w = none := by
  simp [readFin, h]

theorem readFin_of_val {n : Nat} {w : Word} {i : Fin n} (h : i.val = w.toNat) : readFin n w = some i := by
  simp [readFin, ← h]

/-! ## An order carried out at once (R147, R173) -/

/-- R173: an order's own row with timing 0 completes its slot with its owner's result. -/
theorem exec_orderRow_completes {c : Instr} {w : Nat} {n : SlotId} {t : Timing} {o : Order} {s s' : State}
    {code : ResultCode} {reply record} (row : orderRow c = some (w, n, t, o)) (ready : (upTo w s).bus.ready = true)
    (atOnce : t.timing = 0)
    (owner : (orderTaken n t o (upTo w s)).dispatch { slot := n, fired := false, again := false, late := false } o =
      (s', .completes code reply record)) :
    exec c s = .next (completeSlot n code reply record s') := by
  rw [exec_orderRow_atOnce row ready atOnce, carryOut_completes owner]
  rfl

/-! ## FAULT_ACK (R84) -/

theorem ownFaultAck_out_of_range {device : Word} {s : State} (h : 16 ≤ device.toNat) :
    s.ownFaultAck device = refuse .badArg s := by
  simp [ownFaultAck, readFin_out_of_range h]

theorem ownFaultAck_not_enrolled {device : Word} {d : DeviceId} {s : State} (hd : d.val = device.toNat)
    (h : s.devices[d] = none) : s.ownFaultAck device = refuse .noDevice s := by
  simp only [ownFaultAck, readFin_of_val hd, h]

theorem ownFaultAck_enrolled {device : Word} {d : DeviceId} {x : Device} {s : State} (hd : d.val = device.toNat)
    (h : s.devices[d] = some x) :
    s.ownFaultAck device = accept (s.setDevice d (some { x with capture := none, breaches := 0 })) := by
  simp only [ownFaultAck, readFin_of_val hd, h]

/-! ## A hard breach (R94) -/

/-- A change of a record leaves the instant as it is. -/
@[simp] theorem here_setDevice (s : State) (d : DeviceId) (x : Option Device) : (s.setDevice d x).here = s.here := rfl

theorem hardBreach_without_capture {d : DeviceId} {x : Device} {s : State} (h : s.devices[d] = some x)
    (absent : x.capture = none) (o : Int) (l : Label) :
    hardBreach d o l s =
      (s.setDevice d (some { x with capture := some { position := s.here, offset := o, label := l } })).handReport
        { position := s.here, urgent := true, body := .fault d o l x.state } := by
  simp only [hardBreach, h, absent, report, here_setDevice]

theorem hardBreach_with_capture {d : DeviceId} {x : Device} {c : Capture} {s : State} (h : s.devices[d] = some x)
    (present : x.capture = some c) (o : Int) (l : Label) :
    hardBreach d o l s = s.setDevice d (some { x with breaches := bump x.breaches }) := by
  simp only [hardBreach, h, present]

/-- Settles O46: FAULT_ACK refuses an id out of range and a record not enrolled, and otherwise clears the capture and its
count; a hard breach then makes a capture where none is present, and is counted where one is. -/
theorem faultAckClearsTheCapture : Obligations.FaultAckClearsTheCapture := by
  intro w n t device s v ready atOnce
  have completes {s' : State} {code : ResultCode} (answer : v.ownFaultAck device = (s', .completes code Reply.zero none)) :
      exec (.faultAck w n t device) s = .next (completeSlot n code Reply.zero none s') :=
    exec_orderRow_completes (o := .faultAck device) rfl ready atOnce answer
  refine ⟨fun outOfRange => ?_, fun d hd => ⟨fun notEnrolled => ?_, fun x enrolled => ?_⟩,
    fun q d x o l enrolled absent => ?_, fun q d x o l c enrolled present => ?_⟩
  · exact completes (ownFaultAck_out_of_range outOfRange)
  · exact completes (ownFaultAck_not_enrolled hd notEnrolled)
  · exact completes (ownFaultAck_enrolled hd enrolled)
  · exact hardBreach_without_capture enrolled absent o l
  · exact hardBreach_with_capture enrolled present o l

end Sys2Proof.Machine
end

section
/-! SUPPORT. Hard resets (R164, R188): what one leaves in every block and on the pins, how long it holds, and what RESET# and
the supply do to it. -/

namespace Sys2Proof.Machine

open State

/-! ## How the part looks while READY is 0 (R164, R168, R188) -/

theorem hostRead_closed {s : State} (closed : s.bus.ready = false) (a : Word) : s.hostRead a = 0 := by
  simp [hostRead, closed]

theorem intAsserted_closed {s : State} (closed : s.bus.ready = false) : s.intAsserted = false := by
  simp [intAsserted, closed]

theorem dataBus_held {s : State} (held : s.hold.held = true) (read : Option Word) : s.dataBus read = none := by
  simp [dataBus, held]

theorem portPin_inactive {s : State} {i : PortId} (inactive : s.ports[i].active = none) : s.portPin i = false := by
  simp only [portPin, inactive]

theorem tallyPin_stopped {s : State} (stopped : s.clock.state = .stopped) (i : LineId) : s.tallyPin i = false := by
  simp [tallyPin, running, stopped]

/-! ## Every block after a hard reset -/

theorem reset_ports (i : PortId) : State.reset.ports[i] = Port.reset := by simp [State.reset]
theorem reset_lines (i : LineId) : State.reset.lines[i] = Line.reset := by simp [State.reset]
theorem reset_outputs (o : OutputId) : State.reset.outputs[o] = Output.reset := by simp [State.reset]
theorem reset_inputs (i : InputId) : State.reset.inputs[i] = Input.reset := by simp [State.reset]
theorem reset_marks (i : MarkId) : State.reset.marks[i] = MarkInput.reset := by simp [State.reset]
theorem reset_groups (g : GroupId) : State.reset.groups[g] = Group.reset := by simp [State.reset]

/-- Settles O7: each bank holds its block's reset record in every place, and with READY 0 and the clock STOPPED the part looks
inert from outside. -/
theorem hardResetValues : Obligations.HardResetValues := by
  refine ⟨by decide, fun i => ?_, fun i => ?_, fun o => ?_, fun k => ?_, fun i => ?_, fun d => ?_, fun o => ?_, fun i => ?_,
    fun g => ?_, rfl, rfl, rfl, rfl, by decide, rfl, rfl, intAsserted_closed rfl, hostRead_closed rfl, fun i => ?_,
    tallyPin_stopped rfl, fun o => ?_⟩
  · rw [reset_ports]; decide
  · rw [reset_lines]; decide
  · rw [reset_outputs]; decide
  · simp [State.reset]
  · rw [reset_inputs]; decide
  · simp [State.reset]
  · simp [State.reset]
  · rw [reset_marks]; decide
  · rw [reset_groups]; decide
  · exact portPin_inactive (by rw [reset_ports]; rfl)
  · rw [outputPin, reset_outputs]; rfl

/-! ## A hard reset that begins, holds and ends -/

theorem resetBegins_iff (s : State) :
    s.resetBegins = true ↔ s.hold.low = true ∧ s.hold.held = false ∧
      (16 ≤ s.hold.lowFor ∨ Config.resetTicks s.uses.resets ≤ s.hold.lowFor) := by
  simp [resetBegins, and_assoc]

/-- R188: the events of RESET# and of the supply that are due are taken, the beginning of a hard reset first. -/
def settleReset (s : State) : State := takeIfDue .resetEnds (takeIfDue .resetBegins s)

theorem settleReset_begins {s : State} (h : s.resetBegins = true) : settleReset s = s.beginReset := by
  have low : s.hold.low = true := ((resetBegins_iff s).mp h).1
  have lasts : s.beginReset.isDue .resetEnds = false := by simp [isDue, resetEnds, beginReset, low]
  rw [settleReset, takeIfDue_due (e := .resetBegins) h]
  exact takeIfDue_not_due lasts

theorem settleReset_ends {s : State} (h : s.resetEnds = true) :
    settleReset s = { s with hold := { s.hold with held := false } } := by
  have held : s.hold.held = true := ((resetEnds_iff s).mp h).1
  have begun : s.isDue .resetBegins = false := by simp [isDue, resetBegins, held]
  rw [settleReset, takeIfDue_not_due begun]
  exact takeIfDue_due (e := .resetEnds) h

theorem settleReset_neither {s : State} (hb : s.resetBegins = false) (he : s.resetEnds = false) : settleReset s = s := by
  rw [settleReset, takeIfDue_not_due (e := .resetBegins) hb]
  exact takeIfDue_not_due (e := .resetEnds) he

/-! ## What the stage drives, and the bus, while picture time passes -/

/-- R187, R188, R164: what the stage drives, with READY and the initialisation, which no picture tick changes. -/
def State.stage (s : State) : Pins × Hold × Bus := (s.pins, s.hold, s.bus)

@[simp] theorem stage_setClock (s : State) (c : Clock) : (s.setClock c).stage = s.stage := rfl

@[simp] theorem stage_changeClock (s : State) (new : ClockState) (cause : ClockCause) (v : Option Int) :
    (s.changeClock new cause v).stage = s.stage := by
  rw [changeClock_eq, handReport_frame]; rfl

@[simp] theorem stage_settleClock (s : State) : s.settleClock.stage = s.stage := by
  unfold settleClock writeMirror; split <;> rfl

@[simp] theorem stage_applyTune (s : State) : s.applyTune.stage = s.stage := by
  unfold applyTune
  cases s.clock.pendingTune with
  | none => rfl
  | some t => dsimp only; split_ifs <;> simp

@[simp] theorem stage_clockBoundary (s : State) : s.clockBoundary.stage = s.stage := by
  unfold clockBoundary; dsimp only; split <;> simp

@[simp] theorem stage_scanRequest (s : State) : s.scanRequest.stage = s.stage := by
  unfold scanRequest; split <;> rfl

@[simp] theorem stage_passBoundary (s : State) : s.passBoundary.stage = s.stage := by
  unfold passBoundary boundaryRest
  rw [stage_scanRequest]
  exact stage_clockBoundary _

@[simp] theorem stage_advancePicture (s : State) : s.advancePicture.stage = s.stage := by
  unfold advancePicture
  split
  · rfl
  · split
    · rfl
    · split
      · exact stage_passBoundary s
      · rfl

/-- A reference tick begins with what counts reference ticks; the picture time that then passes leaves that as it is. -/
theorem stage_beginTick (s : State) : s.beginTick.stage = s.countTick.stage := stage_advancePicture s.countTick

theorem beginTick_pins (s : State) : s.beginTick.pins = s.pins.sample := congrArg Prod.fst (stage_beginTick s)

theorem beginTick_hold (s : State) : s.beginTick.hold = s.hold.tick :=
  congrArg (fun x => x.2.1) (stage_beginTick s)

theorem beginTick_bus (s : State) : s.beginTick.bus = s.countTick.bus :=
  congrArg (fun x => x.2.2) (stage_beginTick s)

theorem beginTick_bus_held {s : State} (held : s.hold.held = true) : s.beginTick.bus = s.bus := by
  rw [beginTick_bus]
  simp [countTick, held]

/-! ## HARD_RESET (R188) -/

theorem exec_hardReset (w : Nat) (event : ResetEvent) (s : State) :
    exec (.hardReset w event) s = .next (settleReset (upTo w (driveReset event s))) := rfl

/-- R188: a pulse of RESET# that has been long enough resets the part before it ends. -/
theorem driveReset_release (s : State) : driveReset .release s =
    if s.hold.low = true then
      let z := if s.resetBegins = true then s.beginReset else s
      { z with hold := { z.hold with low := false, lowFor := 0 }, uses := { z.uses with resets := z.uses.resets + 1 } }
    else s := rfl

/-- Settles O8: the rules that begin and end a hard reset, read as those of R188, make `settleReset` the statement's
`settled`; RESET# and the supply act by the cases of `driveReset`. -/
theorem hardResetByItsLength : Obligations.HardResetByItsLength := by
  unfold Obligations.HardResetByItsLength
  intro reset long finished settled
  have long_iff (u : State) : u.resetBegins = true ↔ long u := resetBegins_iff u
  have finished_iff (u : State) : u.resetEnds = true ↔ finished u := resetEnds_iff u
  have settled_eq (u : State) : settleReset u = settled u := by
    by_cases begins : long u
    · rw [settleReset_begins ((long_iff u).mpr begins)]
      exact (if_pos begins).symm
    · have not_begun : u.resetBegins = false := Bool.eq_false_iff.mpr fun h => begins ((long_iff u).mp h)
      by_cases ends : finished u
      · rw [settleReset_ends ((finished_iff u).mpr ends)]
        exact ((if_neg begins).trans (if_pos ends)).symm
      · rw [settleReset_neither not_begun (Bool.eq_false_iff.mpr fun h => ends ((finished_iff u).mp h))]
        exact ((if_neg begins).trans (if_neg ends)).symm
  have exec_eq (w : Nat) (event : ResetEvent) (s z : State) (h : driveReset event s = z) :
      exec (.hardReset w event) s = .next (settled (upTo w z)) := by
    rw [exec_hardReset, settled_eq, h]
  refine ⟨fun w s => ?_, fun w s => ?_, fun w s => ⟨?_, ?_⟩, fun s => ?_, fun s a read => ?_⟩
  · exact exec_eq w .assert s _ rfl
  · refine exec_eq w .release s _ ?_
    rw [driveReset_release]
    simp only [long_iff]
    rfl
  · exact exec_eq w .powerOn s _ rfl
  · exact exec_eq w .powerGood s _ rfl
  · exact ⟨beginTick_hold s, beginTick_bus_held, long_iff s, finished_iff s⟩
  · exact ⟨rfl, rfl, hostRead_closed rfl a, dataBus_held rfl read, intAsserted_closed rfl,
      fun i => portPin_inactive (congrArg Port.active (reset_ports i)), tallyPin_stopped rfl,
      fun o => congrArg Output.level (reset_outputs o)⟩

end Sys2Proof.Machine
end

section
/-! SUPPORT. The sampled pins and the time word inputs (R76, R77, R79, R187): how the row of a TWI pin drives, samples and takes
its change of level, what a level change does by the interval it ends, and what a decoded bit does. -/

namespace Sys2Proof.Machine

open State

/-! ## Sampling (R187) -/

theorem Pin.sample_eq (p : Pin) :
    p.sample = if p.driven = p.level then { p with samples := 0 } else { p with samples := min 3 (p.samples + 1) } := by
  split
  · next same => exact Pin.sample_same same
  · next changed => exact Pin.sample_changed changed

/-! ## The bits of a word (R77, R79) -/

theorem countBad_badWords (x : Input) :
    x.countBad.badWords = if x.bound = none then x.badWords else min 65535 (x.badWords + 1) := by
  unfold Input.countBad bump
  cases x.bound <;> rfl

/-- A bad word changes the count and nothing else. -/
theorem countBad_frame (x : Input) : x.countBad = { x with badWords := x.countBad.badWords } := by
  unfold Input.countBad
  split <;> rfl

theorem huntBit_sync {x : Input} {b : Bool}
    (whole : (if x.hunt.length < 12 then x.hunt else x.hunt.drop 1) ++ [b] = syncBits) :
    x.huntBit b = { x with receiver := .word, bits := syncBits, synced := true, hunt := [] } := by
  simp only [Input.huntBit, whole, if_true]

theorem huntBit_window {x : Input} {b : Bool}
    (other : (if x.hunt.length < 12 then x.hunt else x.hunt.drop 1) ++ [b] ≠ syncBits) :
    x.huntBit b = { x with hunt := (if x.hunt.length < 12 then x.hunt else x.hunt.drop 1) ++ [b] } := by
  simp only [Input.huntBit, other, if_false]

theorem wordBit_synced {x : Input} {b : Bool} (synced : x.synced = true) :
    x.wordBit b = { x with
      bits := x.bits ++ [b]
      lastBit := if x.bits.length = 62 then some { length := x.lastLength, elapsed := 0, value := none }
        else x.lastBit } := by
  unfold Input.wordBit
  by_cases last : x.bits.length = 62 <;> simp [synced, last]

theorem wordBit_resynced {x : Input} {b : Bool} (unsynced : x.synced = false)
    (sync : x.bits ++ [b] = syncBits) : x.wordBit b = { x with bits := syncBits, synced := true } := by
  have judged : (!x.synced) = true ∧ syncBits.length = 12 := ⟨by rw [unsynced]; rfl, by decide⟩
  simp only [Input.wordBit, sync, if_pos judged, if_true]

theorem wordBit_wrong_sync {x : Input} {b : Bool} (unsynced : x.synced = false) (twelfth : x.bits.length = 11)
    (wrong : x.bits ++ [b] ≠ syncBits) :
    x.wordBit b = { x.countBad with receiver := .hunt, hunt := x.bits ++ [b], bits := [] } := by
  simp [Input.wordBit, unsynced, twelfth, wrong]

/-- R76: while bit 63 is under way the bits of a following word wait for the arrival of this one. -/
theorem decoded_following {x : Input} {b : Bool} {n : Nat} (word : x.receiver = .word) (under : x.lastBit ≠ none) :
    Input.decoded b n x = { x with half := none, lastLength := n, following := x.following ++ [b] } := by
  simp [Input.decoded, word, Option.isSome_iff_ne_none.mpr under]

theorem decoded_hunt {x : Input} {b : Bool} {n : Nat} (hunt : x.receiver = .hunt) :
    Input.decoded b n x = ({ x with half := none, lastLength := n } : Input).huntBit b := by
  simp only [Input.decoded, hunt]

theorem decoded_word {x : Input} {b : Bool} {n : Nat} (word : x.receiver = .word) (before : x.lastBit = none) :
    Input.decoded b n x = ({ x with half := none, lastLength := n } : Input).wordBit b := by
  simp [Input.decoded, word, before]

theorem huntBit_length (b : Bool) (x : Input) : (x.huntBit b).lastLength = x.lastLength ∧ (x.huntBit b).half = x.half := by
  unfold Input.huntBit
  dsimp only
  generalize (if x.hunt.length < 12 then x.hunt else x.hunt.drop 1) ++ [b] = window
  split <;> exact ⟨rfl, rfl⟩

theorem wordBit_length (b : Bool) (x : Input) : (x.wordBit b).lastLength = x.lastLength ∧ (x.wordBit b).half = x.half := by
  unfold Input.wordBit
  dsimp only
  split_ifs
  · exact ⟨rfl, rfl⟩
  · rw [countBad_frame]; exact ⟨rfl, rfl⟩
  · exact ⟨rfl, rfl⟩
  · exact ⟨rfl, rfl⟩

/-- R76: a decoded bit's length is kept, and no half is pending after it. -/
theorem decoded_length (b : Bool) (n : Nat) (x : Input) :
    (Input.decoded b n x).lastLength = n ∧ (Input.decoded b n x).half = none := by
  unfold Input.decoded
  dsimp only
  split
  · exact ⟨rfl, rfl⟩
  · exact huntBit_length b _
  · split
    · exact ⟨rfl, rfl⟩
    · exact wordBit_length b _

/-! ## The intervals (R76) -/

theorem interval_tooShort {n : Nat} (h : n < 5000) : interval n = .tooShort := if_pos h

theorem interval_half {n : Nat} (low : 5000 ≤ n) (high : n < 12000) : interval n = .half := by
  rw [interval, if_neg (Nat.not_lt.mpr low), if_pos high]

theorem interval_whole {n : Nat} (h : 12000 ≤ n) : interval n = .whole := by
  rw [interval, if_neg (by omega), if_neg (by omega)]

/-- R76, R77: alignment is lost, and a word whose sync was received is a broken word. -/
theorem lose_eq (x : Input) : x.lose = { x with
    receiver := .hunt, aligned := false, half := none, hunt := [], bits := [], synced := false, lastBit := none
    awaitStart := false, following := []
    badWords := if x.receiver = .word ∧ x.synced = true ∧ x.bound ≠ none then min 65535 (x.badWords + 1)
      else x.badWords } := by
  unfold Input.lose
  by_cases received : x.receiver = .word ∧ x.synced = true
  · rw [if_pos received, countBad_frame, countBad_badWords]
    by_cases unbound : x.bound = none <;> simp [Input.restart, received, unbound]
  · rw [if_neg received]
    have : ¬ (x.receiver = .word ∧ x.synced = true ∧ x.bound ≠ none) := fun h => received ⟨h.1, h.2.1⟩
    simp only [Input.restart, if_neg this]

theorem change_tooShort {x : Input} {n : Nat} (h : n < 5000) : x.change n = x.lose := by
  simp only [Input.change, interval_tooShort h]

theorem change_first_half {x : Input} {n : Nat} (low : 5000 ≤ n) (high : n < 12000) (none_pending : x.half = none) :
    x.change n = { x with half := some n } := by
  simp only [Input.change, interval_half low high, none_pending]

theorem change_second_half {x : Input} {n h : Nat} (low : 5000 ≤ n) (high : n < 12000) (pending : x.half = some h) :
    x.change n = x.decoded true (h + n) := by
  simp only [Input.change, interval_half low high, pending]

theorem change_whole {x : Input} {n : Nat} (whole : 12000 ≤ n) (none_pending : x.half = none) :
    x.change n = x.decoded false n := by
  simp only [Input.change, interval_whole whole, none_pending]

theorem change_whole_after_half {x : Input} {n : Nat} (whole : 12000 ≤ n) (pending : x.half ≠ none) :
    x.change n = x.lose := by
  obtain ⟨h, pending⟩ := Option.ne_none_iff_exists'.mp pending
  simp only [Input.change, interval_whole whole, pending]

/-! ## A level change (R76) -/

theorem quietDue_early {x : Input} (h : x.since < 23000) : x.quietDue = false := by
  have : x.since ≠ quietTicks := Nat.ne_of_lt h
  simp [Input.quietDue, this]

/-- The first level change after alignment is lost is taken as a bit start. -/
theorem levelChange_aligns {x : Input} (early : x.since < 23000) (lost : x.aligned = false) :
    x.levelChange = { x with since := 0, aligned := true } := by
  simp [Input.levelChange, quietDue_early early, lost]

theorem levelChange_ordinary {x : Input} (early : x.since < 23000) (aligned : x.aligned = true)
    (started : x.awaitStart = false) (before : x.lastBit = none) :
    x.levelChange = ({ x with since := 0 } : Input).change x.since := by
  simp [Input.levelChange, quietDue_early early, aligned, started, before]

/-- The change that starts bit 0 of a following word. -/
theorem levelChange_starts {x : Input} (early : x.since < 23000) (aligned : x.aligned = true)
    (awaited : x.awaitStart = true) (long : 5000 ≤ x.since) :
    x.levelChange = { x with since := 0, awaitStart := false } := by
  rcases Nat.lt_or_ge x.since 12000 with half | whole
  · simp [Input.levelChange, quietDue_early early, aligned, awaited, Input.startChange, interval_half long half]
  · simp [Input.levelChange, quietDue_early early, aligned, awaited, Input.startChange, interval_whole whole]

/-- A half interval decides bit 63 as 1. -/
theorem levelChange_last_one {x : Input} {b : LastBit} (early : x.since < 23000) (aligned : x.aligned = true)
    (started : x.awaitStart = false) (last : x.lastBit = some b) (undecided : b.value = none) (low : 5000 ≤ x.since)
    (high : x.since < 12000) :
    x.levelChange = { x with since := 0, awaitStart := true, lastBit := some { b with value := some true } } := by
  simp [Input.levelChange, quietDue_early early, aligned, started, last, undecided, Input.lastChange,
    interval_half low high]

/-! ## The row of a TWI pin (entry 2, R187) -/

theorem wordPinEdge_disabled {i : InputId} {s : State} (off : s.inputs[i].enable = false) :
    wordPinEdge i s = s.setPins (s.pins.takeWord i) := by
  simp only [wordPinEdge, setPins_inputs, off, Bool.false_eq_true, if_false]

theorem wordPinEdge_enabled {i : InputId} {s : State} (on : s.inputs[i].enable = true) :
    wordPinEdge i s = (s.setPins (s.pins.takeWord i)).setInput i s.inputs[i].levelChange := by
  simp only [wordPinEdge, setPins_inputs, on, if_true]

theorem takeIfDue_levelChange_early {i : InputId} {s : State} (few : s.pins.words[i].samples < 3) :
    takeIfDue (.levelChange i) s = s :=
  takeIfDue_not_due (decide_eq_false (Nat.not_le.mpr few))

theorem takeIfDue_levelChange {i : InputId} {s : State} (third : 3 ≤ s.pins.words[i].samples) :
    takeIfDue (.levelChange i) s = wordPinEdge i s :=
  takeIfDue_due (e := .levelChange i) ((Pin.edgeDue_iff _).mpr third)

/-- Settles O43: the row's tick samples and edge by the rules of R187, the level change by the interval it ends, and the
decoded bit by the receiver's state. -/
theorem levelChangesDecodeBits : Obligations.LevelChangesDecodeBits := by
  refine ⟨fun s => ?_, fun w level i s => ?_, fun x b n => ?_⟩
  · intro sampled
    have sample_eq : sampled = Pin.sample := funext fun p => (Pin.sample_eq p).symm
    rw [sample_eq, beginTick_pins]
    exact ⟨rfl, fun i => by simp [Pins.sample], fun i => by simp [Pins.sample]⟩
  · intro u0 pin u x lost
    have row : exec (.twiLevelChange w i level) s = .next (takeIfDue (.levelChange i) u0) := rfl
    clear_value u0
    have not_taken (few : pin.samples < 3) : exec (.twiLevelChange w i level) s = .next u0 :=
      row.trans (congrArg _ (takeIfDue_levelChange_early few))
    have taken (third : 3 ≤ pin.samples) : exec (.twiLevelChange w i level) s = .next (wordPinEdge i u0) :=
      row.trans (congrArg _ (takeIfDue_levelChange third))
    have changed {y : Input} (third : 3 ≤ pin.samples) (on : x.enable = true) (h : x.levelChange = y) :
        exec (.twiLevelChange w i level) s = .next (u.setInput i y) :=
      (taken third).trans (congrArg _ ((wordPinEdge_enabled (s := u0) on).trans (congrArg (u.setInput i) h)))
    have lost_eq : ({ x with since := 0 } : Input).lose = lost := lose_eq _
    refine ⟨not_taken, fun third off => ?_, fun third on early => ⟨fun unaligned => ?_, fun aligned started before => ?_,
      fun aligned awaited long => ?_, fun b aligned started last undecided low high => ?_⟩⟩
    · exact (taken third).trans (congrArg _ (wordPinEdge_disabled (s := u0) off))
    · exact changed third on (levelChange_aligns early unaligned)
    · have change_eq {y : Input} (h : ({ x with since := 0 } : Input).change x.since = y) :
          exec (.twiLevelChange w i level) s = .next (u.setInput i y) :=
        changed third on ((levelChange_ordinary early aligned started before).trans h)
      refine ⟨fun short => ?_, fun low high first => ?_, fun h low high second => ?_, fun whole first => ?_,
        fun whole second => ?_⟩
      · exact change_eq ((change_tooShort short).trans lost_eq)
      · exact change_eq (change_first_half low high first)
      · exact change_eq (change_second_half low high second)
      · exact change_eq (change_whole whole first)
      · exact change_eq ((change_whole_after_half (x := { x with since := 0 }) whole second).trans lost_eq)
    · exact changed third on (levelChange_starts early aligned awaited long)
    · exact changed third on (levelChange_last_one early aligned started last undecided low high)
  · intro y window
    refine ⟨(decoded_length b n x).1, (decoded_length b n x).2, fun hunt whole => ?_, fun hunt other => ?_,
      fun word before => ⟨fun synced => ?_, fun unsynced _ sync => ?_, fun unsynced twelfth wrong => ?_⟩,
      fun word under => ?_⟩
    · have y_eq := (decoded_hunt (b := b) (n := n) hunt).trans (huntBit_sync whole)
      simp [y, y_eq]
    · have y_eq := (decoded_hunt (b := b) (n := n) hunt).trans (huntBit_window other)
      simp [y, y_eq, hunt, window]
    · have y_eq := (decoded_word (b := b) (n := n) word before).trans (wordBit_synced synced)
      simp +contextual [y, y_eq, word, synced]
    · have y_eq := (decoded_word (b := b) (n := n) word before).trans (wordBit_resynced unsynced sync)
      simp [y, y_eq, word]
    · have y_eq := (decoded_word (b := b) (n := n) word before).trans (wordBit_wrong_sync unsynced twelfth wrong)
      simp [y, y_eq, countBad_badWords]
    · simp [y, decoded_following word under]

end Sys2Proof.Machine
end

section
/-! SUPPORT. The MARK pins and the mark inputs (R120 to R125, R133, R187): what a taken change of level becomes by the judging of
R120, what a captured CLAP or GENERIC mark does, and the re-arming of a latch. -/

namespace Sys2Proof.Machine

open State

/-! ## The row of a MARK pin (entry 2, R187) -/

theorem takeIfDue_markEdge_early {i : MarkId} {s : State} (few : s.pins.marks[i].samples < 3) :
    takeIfDue (.markEdge i) s = s :=
  takeIfDue_not_due (decide_eq_false (Nat.not_le.mpr few))

theorem takeIfDue_markEdge {i : MarkId} {s : State} (third : 3 ≤ s.pins.marks[i].samples) :
    takeIfDue (.markEdge i) s = markPinEdge i s :=
  takeIfDue_due (e := .markEdge i) ((Pin.edgeDue_iff _).mpr third)

/-! ## The judging of an edge (R120) -/

theorem running_iff (s : State) : s.running = true ↔ s.clock.state ≠ .stopped := decide_eq_true_iff

theorem edge_takes_not (e : Edge) (rise : Bool) :
    Edge.takes e rise = false ↔ (e = .fall ∧ rise = true) ∨ (e = .rise ∧ rise = false) := by
  cases e <;> cases rise <;> decide

theorem inWindow_iff (m : MarkInput) (f : FrameNo) :
    MarkInput.inWindow m f = true ↔ m.windowLimit.toNat < m.windowBase.toNat ∨
      (m.windowBase.toNat ≤ f.toNat ∧ f.toNat ≤ m.windowLimit.toNat) := by
  simp [MarkInput.inWindow]

/-- R120, R121: the edge is no mark of the input: it is DISABLED, the clock STOPPED, the edge of the other direction, or the
latch FIRED. -/
def State.ignoresEdge (s : State) (i : MarkId) (rise : Bool) : Prop :=
  s.marks[i].role = .disabled ∨ s.clock.state = .stopped ∨ (s.marks[i].edge = .fall ∧ rise = true) ∨
    (s.marks[i].edge = .rise ∧ rise = false) ∨ s.marks[i].reArm ≠ none

theorem ignoresEdge_iff (s : State) (i : MarkId) (rise : Bool) :
    s.ignoresEdge i rise ↔ s.marks[i].role = .disabled ∨ s.running = false ∨ Edge.takes s.marks[i].edge rise = false ∨
      s.latchFired i = true := by
  rw [ignoresEdge, edge_takes_not, latchFired, Option.isSome_iff_ne_none, running, decide_eq_false_iff_not, not_not, or_assoc]

theorem markEdge_ignored {i : MarkId} {rise : Bool} {s : State} (h : s.ignoresEdge i rise) : markEdge i rise s = s := by
  unfold markEdge
  rcases (ignoresEdge_iff s i rise).mp h with disabled | stopped | other | fired
  · exact if_pos disabled
  · simp only [stopped, Bool.not_false, if_true, ite_self]
  · simp only [other, Bool.not_false, if_true, ite_self]
  · simp only [fired, if_true, ite_self]

/-- R120: what an edge that is not ignored comes to. -/
theorem markEdge_judged {i : MarkId} {rise : Bool} {s : State} (h : ¬ s.ignoresEdge i rise) :
    markEdge i rise s = if !MarkInput.inWindow s.marks[i] s.clock.frame
      then s.setMark i { s.marks[i] with ignored := bump s.marks[i].ignored } else (s.fireLatch i).captured i rise := by
  simp only [ignoresEdge_iff, not_or, Bool.not_eq_false, Bool.not_eq_true] at h
  obtain ⟨role, running, takes, armed⟩ := h
  unfold markEdge
  simp only [role, running, takes, armed, Bool.not_true, Bool.false_eq_true, if_false]
  rfl

/-! ## The Report Writer's door (R174) -/

/-- A report reads no more of the state than the bus, the writer and the store, and changes no more than the last two. -/
theorem handReport_congr {s t : State} (bus : t.bus = s.bus) (writer : t.writer = s.writer) (store : t.store = s.store)
    (r : Report) : t.handReport r = { t with writer := (s.handReport r).writer, store := (s.handReport r).store } := by
  cases h : s.bus.ready
  · have h' : t.bus.ready = false := bus ▸ h
    rcases Nat.lt_or_ge (reportsWaiting s.writer.kept) 64 with hq | hq
    · rw [handReport_kept h hq, handReport_kept h' (writer ▸ hq), writer, store]
    · rw [handReport_lost h hq, handReport_lost h' (writer ▸ hq), writer, store]
  · have h' : t.bus.ready = true := bus ▸ h
    rcases Nat.lt_or_ge (reportsWaiting s.writer.queue) 64 with hq | hq
    · rw [handReport_accepted h hq, handReport_accepted h' (writer ▸ hq), writer, store]
    · rw [handReport_dropped h hq, handReport_dropped h' (writer ▸ hq), writer, store]

/-- The mark inputs play no part in a report. -/
theorem handReport_setMarks (s : State) (r : Report) (m m' : Vector MarkInput 16) :
    { ({ s with marks := m' } : State).handReport r with marks := m } = { s.handReport r with marks := m } := by
  rw [handReport_congr (s := s) (t := { s with marks := m' }) rfl rfl rfl, handReport_frame s]

/-! ## A captured CLAP or GENERIC mark (R122, R124, R125, R133) -/

theorem captured_group {i : MarkId} {rise : Bool} {g : GroupId} {kind : Word} {s : State}
    (role : (s.marks[i].role = .clap g ∧ kind = 4) ∨ (s.marks[i].role = .generic g ∧ kind = 5)) :
    s.captured i rise = s.groupMark i g kind := by
  rcases role with ⟨role, rfl⟩ | ⟨role, rfl⟩ <;> simp only [State.captured, role, MarkKind.clap, MarkKind.generic]

theorem groupMark_stray {i : MarkId} {g : GroupId} {kind : Word} {s : State} (idle : s.groups[g].current = none) :
    s.groupMark i g kind = s.handReport { position := s.here, urgent := false, body := .markStray i kind g.val } := by
  simp only [groupMark, Group.isOpen, idle, Option.isSome_none, Bool.false_eq_true, if_false]
  rfl

/-- R133: a mark placed in an open take. -/
theorem placeMark_open {g : GroupId} {take : Take} {m : Mark} {s : State} (h : s.groups[g].current = some take) :
    s.placeMark g m = s.setGroup g { s.groups[g] with take := some (Take.place m take) } := by
  simp only [placeMark, Group.mapOpen, h, if_true]

theorem storedSet_open {g : GroupId} {take : Take} {s : State} (h : s.groups[g].current = some take) :
    s.storedSet g = if take.marks.length < 8 then singleGroup g else 0 := by
  simp only [storedSet, h, Option.any_some, Take.hasRoom, decide_eq_true_eq]

/-- R125: a mark that is not yet to be reported is counted silent. -/
theorem quietCount_silent {i : MarkId} {kind : Word} {placed stored : GroupSet} {s : State} (h : 0 < s.marks[i].remaining) :
    s.quietCount i kind placed stored = s.setMark i { s.marks[i] with
      remaining := s.marks[i].remaining - 1, silent := s.marks[i].silent + 1 } := by
  simp only [quietCount, h, if_true]

theorem quietCount_reported {i : MarkId} {kind : Word} {placed stored : GroupSet} {s : State} (h : s.marks[i].remaining = 0) :
    s.quietCount i kind placed stored = (s.handReport { position := s.here, urgent := false
                                                        body := .mark (.input i) kind placed stored s.marks[i].silent }).setMark i
      { s.marks[i] with remaining := s.marks[i].quiet, silent := 0 } := by
  simp only [quietCount, h, Nat.lt_irrefl, if_false, report]

/-- R122, R125: a mark in its group's open take, not yet to be reported. -/
theorem groupMark_silent {i : MarkId} {g : GroupId} {kind : Word} {take : Take} {s : State}
    {m : MarkInput} (mark : s.marks[i] = m) (isOpen : s.groups[g].current = some take) (silent : 0 < m.remaining) :
    s.groupMark i g kind = { s with
      groups := s.groups.set g { s.groups[g] with
        take := some (Take.place { source := .input i, kind := kind, position := s.here } take) }
      marks := s.marks.set i { m with remaining := m.remaining - 1, silent := m.silent + 1 } } := by
  subst mark
  simp only [groupMark, Group.isOpen, isOpen, Option.isSome_some, if_true, landMark, placeMark_open isOpen]
  exact quietCount_silent (s := s.setGroup g _) silent

theorem groupMark_reported {i : MarkId} {g : GroupId} {kind : Word} {take : Take} {s : State}
    {m : MarkInput} (mark : s.marks[i] = m) (isOpen : s.groups[g].current = some take) (reported : m.remaining = 0) :
    s.groupMark i g kind = { ({ s with groups := s.groups.set g { s.groups[g] with
        take := some (Take.place { source := .input i, kind := kind, position := s.here } take) } } : State).handReport
          { position := s.here, urgent := false
            body := .mark (.input i) kind (singleGroup g) (if take.marks.length < 8 then singleGroup g else 0)
              m.silent } with
      marks := s.marks.set i { m with remaining := m.quiet, silent := 0 } } := by
  subst mark
  simp only [groupMark, Group.isOpen, isOpen, Option.isSome_some, if_true, landMark, placeMark_open isOpen,
    storedSet_open isOpen]
  rw [quietCount_reported (s := s.setGroup g _) reported, setMark, handReport_marks]
  rfl

/-! ## The latch (R121) -/

theorem reArmDue_iff (s : State) (i : MarkId) :
    s.reArmDue i = true ↔ s.clock.state ≠ .stopped ∧ s.marks[i].reArm = some s.clock.frame := by
  rw [reArmDue, Bool.and_eq_true, running_iff, decide_eq_true_iff]
  rfl

/-- Settles O52: the row's edge by the rules of R187, its judging by R120, what the captured mark does by its group's take, and
the latch by R121. -/
theorem markEdgesAreJudged : Obligations.MarkEdgesAreJudged := by
  refine ⟨fun w i level lead s => ?_, fun w i s => ?_⟩
  · intro z u0 pin rise u m inside ignored fired
    have row : exec (.markEdge w i level lead) s = .next (takeIfDue (.markEdge i) u0) := rfl
    clear_value u0
    have taken (third : 3 ≤ pin.samples) : exec (.markEdge w i level lead) s = .next (markEdge i rise u) :=
      row.trans (congrArg _ (takeIfDue_markEdge third))
    have captured (third : 3 ≤ pin.samples) (judged : ¬ ignored) (window : inside) :
        exec (.markEdge w i level lead) s = .next ((u.setMark i fired).captured i rise) := by
      rw [taken third, markEdge_judged judged, (inWindow_iff u.marks[i] u.clock.frame).mpr window]
      rfl
    have mark : (u.setMark i fired).marks[i] = fired := Vector.getElem_set_self _
    have marks (x : MarkInput) : (u.marks.set i fired).set i x = u.marks.set i x := Vector.set_set _ i.isLt
    refine ⟨fun few => row.trans (congrArg _ (takeIfDue_markEdge_early few)), fun third h => ?_, fun third judged outside => ?_,
      captured, fun third judged window g kind role => ?_⟩
    · rw [taken third, markEdge_ignored h]
    · rw [taken third, markEdge_judged judged, Bool.eq_false_iff.mpr fun h => outside ((inWindow_iff _ _).mp h)]
      rfl
    · have role' : ((u.setMark i fired).marks[i].role = .clap g ∧ kind = 4) ∨
          ((u.setMark i fired).marks[i].role = .generic g ∧ kind = 5) := by rw [mark]; exact role
      rw [captured third judged window, captured_group role']
      refine ⟨fun idle => ?_, fun take isOpen => ⟨fun silent => ?_, fun reported => ?_⟩⟩
      · exact congrArg _ (groupMark_stray (s := u.setMark i fired) idle)
      · rw [groupMark_silent (s := u.setMark i fired) mark isOpen silent]
        simp only [setMark_marks, marks]
        rfl
      · rw [groupMark_reported (s := u.setMark i fired) mark isOpen reported]
        simp only [setMark_marks, marks]
        exact congrArg _ (handReport_setMarks { u with groups := u.groups.set g _ } _ _ _)
  · intro u
    have row : exec (.latchReArm w i) s = .next (takeIfDue (.latchReArm i) u) := rfl
    clear_value u
    refine ⟨fun running due => ?_, fun h => ?_⟩
    · rw [row, takeIfDue_due (e := .latchReArm i) ((reArmDue_iff u i).mpr ⟨running, due⟩)]
      rfl
    · rw [row, takeIfDue_not_due]
      refine Bool.eq_false_iff.mpr fun due => ?_
      obtain ⟨running, frame⟩ := (reArmDue_iff u i).mp due
      exact h.elim running fun other => other frame

end Sys2Proof.Machine
end

section
/-! SUPPORT. HREF and its arrivals (R11, R12, R16, R17, R20, R187): when a rise is taken as an arrival, what taking it does to
the clock, the lock run's cases, and the conditions of a crash lock. -/

namespace Sys2Proof.Machine

open State

/-! ## The row of HREF (entry 2, R187) -/

theorem takeIfDue_hrefEdge_early {s : State} (few : s.pins.href.samples < 3) : takeIfDue .hrefEdge s = s :=
  takeIfDue_not_due (decide_eq_false (Nat.not_le.mpr few))

theorem takeIfDue_hrefEdge {s : State} (third : 3 ≤ s.pins.href.samples) : takeIfDue .hrefEdge s = s.hrefEdge :=
  takeIfDue_due (e := .hrefEdge) ((Pin.edgeDue_iff _).mpr third)

/-! ## What is taken as an arrival (R11) -/

theorem arrivalTaken_iff (s : State) :
    s.arrivalTaken = true ↔
      s.clock.state ≠ .stopped ∧ s.clock.arrived = false ∧ ¬ (s.clock.state = .freeRun ∧ s.clock.refUse = false) := by
  simp [arrivalTaken, running_iff, and_assoc, imp_iff_not_or]

theorem arrival_not_taken {s : State} (h : s.arrivalTaken = false) : s.arrival = s := by simp [arrival, h]

theorem crashDue_taken {s : State} (h : s.crashDue = true) : s.arrivalTaken = true := by
  simp only [crashDue, Bool.and_eq_true] at h
  exact h.1.1

/-! ## Taking an arrival (R11, R17) -/

/-- The clock plays no part in a report. -/
theorem handReport_setClock (s : State) (c : Clock) (r : Report) :
    (s.setClock c).handReport r = (s.handReport r).setClock c := by
  rw [handReport_congr (s := s) (t := s.setClock c) rfl rfl rfl, handReport_frame s]
  rfl

/-- R22: a change from another state than LOCKED owes the takes no further notice. -/
theorem changeClock_unlocked {s : State} {previous : ClockState} (state : s.clock.state = previous)
    (other : previous ≠ .locked) (new : ClockState) (cause : ClockCause) (v : Option Int) :
    s.changeClock new cause v =
      ({ s with clock := { s.clock with state := new }, writer := { s.writer with clock := true } } : State).handReport
        { position := s.here, urgent := clockUrgent previous new, body := .clockState previous new cause v } := by
  rw [changeClock_eq, state, decide_eq_false other, Bool.or_false, handReport_frame]
  rfl

/-- R22, R141: a change from LOCKED of which the takes have their notice at once. -/
theorem changeClock_notice {s : State} (locked : s.clock.state = .locked) (new : ClockState) (cause : ClockCause)
    (v : Option Int) :
    (s.changeClock new cause v).giveUnlocked =
      (({ s with clock := { s.clock with state := new }, writer := { s.writer with clock := true } } : State).handReport
        { position := s.here, urgent := clockUrgent .locked new
          body := .clockState .locked new cause v }).unlockedNotice.setOwed { s.owed with unlocked := false } := by
  rw [changeClock_eq, locked, decide_eq_true rfl, Bool.or_true, giveUnlocked_owed rfl]
  rfl

/-- An arrival taken elsewhere than in FREE and HOLDOVER leaves the state of the clock. -/
theorem beginArrival_stays {s : State} (h : ¬ (s.clock.state = .freeRun ∨ s.clock.state = .holdover)) :
    s.beginArrival = s.setClock { s.clock with arrived := true, missingRun := 0 } := if_neg h

/-- R17: the clock that an arrival taken in FREE or HOLDOVER moves to LOCKING. -/
def Clock.relocking (c : Clock) : Clock :=
  { c with
    state := .locking, arrived := true, missingRun := 0, lockRun := 0, crashEligible := true, holdoverValue := none
    holdoverCount := 0 }

/-- R17: the move is reported at the arrival's position. -/
theorem beginArrival_moves {s : State} (h : s.clock.state = .freeRun ∨ s.clock.state = .holdover) :
    s.beginArrival = { ({ s with writer := { s.writer with clock := true } } : State).handReport
        { position := s.here, urgent := false, body := .clockState s.clock.state .locking .arrival none } with
      clock := s.clock.relocking } := by
  have unlocked : s.clock.state ≠ .locked := by rcases h with h | h <;> simp [h]
  let c : Clock := { s.clock with
    arrived := true, missingRun := 0, lockRun := 0, crashEligible := true, holdoverValue := none, holdoverCount := 0 }
  have relocks : s.beginArrival = (s.setClock c).changeClock .locking .arrival none := if_pos h
  rw [relocks, changeClock_unlocked (s := s.setClock c) (previous := s.clock.state) rfl unlocked]
  exact handReport_setClock { s with writer := { s.writer with clock := true } } s.clock.relocking _

/-! ## The conditions of a crash lock (R20) -/

theorem crashAllowed_iff (s : State) (e : Int) :
    s.crashAllowed e = true ↔ 8 * s.clock.slew < e.natAbs ∧ s.clock.crashPermit = true ∧ s.anyOpen = false := by
  simp [crashAllowed, crashWanted, and_assoc]

theorem crashAllowed_congr {s t : State} (slew : t.clock.slew = s.clock.slew)
    (permit : t.clock.crashPermit = s.clock.crashPermit) (groups : t.groups = s.groups) (e : Int) :
    t.crashAllowed e = s.crashAllowed e := by
  simp only [crashAllowed, crashWanted, slew, permit, anyOpen, groups]

@[simp] theorem beginArrival_groups (s : State) : s.beginArrival.groups = s.groups := by
  unfold beginArrival beginLocking
  split
  · rw [changeClock_eq]; exact handReport_groups _ _
  · rfl

/-- Taking an arrival changes nothing that a crash lock's conditions read, save crash eligible. -/
theorem beginArrival_crashWanted (s : State) (e : Int) : s.beginArrival.crashWanted e = s.crashWanted e := by
  unfold beginArrival beginLocking
  split
  · rw [changeClock_eq, crashWanted, setOwed_clock, handReport_clock]; rfl
  · rfl

theorem beginArrival_crashAllowed (s : State) (e : Int) : s.beginArrival.crashAllowed e = s.crashAllowed e := by
  rw [crashAllowed, beginArrival_crashWanted, anyOpen, beginArrival_groups]
  rfl

/-- R17: crash eligible once the arrival is taken. -/
theorem beginArrival_crashEligible (s : State) :
    s.beginArrival.clock.crashEligible =
      (decide (s.clock.state = .freeRun ∨ s.clock.state = .holdover) || s.clock.crashEligible) := by
  by_cases h : s.clock.state = .freeRun ∨ s.clock.state = .holdover
  · rw [beginArrival_moves h, decide_eq_true h]; rfl
  · rw [beginArrival_stays h, decide_eq_false h]; rfl

/-! ## The lock run (R16) -/

theorem lockArrival_locking {s : State} {e : Int} (locking : s.clock.state = .locking) (run : s.clock.lockRun < 7) :
    s.lockArrival e = s.setClock { s.clock with
      ordered := some { error := e, takenIn := s.clock.state }
      lockRun := if e.natAbs ≤ s.clock.window then s.clock.lockRun + 1 else 0 } := by
  have short : s.clock.lockRun + 1 < 8 := by omega
  by_cases inside : e.natAbs ≤ s.clock.window <;> simp [lockArrival, locking, inside, short]

theorem lockArrival_locking_outside {s : State} {e : Int} (locking : s.clock.state = .locking)
    (outside : s.clock.window < e.natAbs) :
    s.lockArrival e = s.setClock { s.clock with
      ordered := some { error := e, takenIn := s.clock.state }, lockRun := 0 } := by
  simp [lockArrival, locking, outside]

/-- R16: the eighth arrival in a row within the window locks. -/
theorem lockArrival_locks {s : State} {e : Int} (locking : s.clock.state = .locking)
    (inside : e.natAbs ≤ s.clock.window) (run : s.clock.lockRun = 7) :
    s.lockArrival e = (s.setClock { s.clock with
      ordered := some { error := e, takenIn := s.clock.state }, lockRun := 0 }).changeClock .locked .lockRun none := by
  simp [lockArrival, locking, inside, run]

theorem lockArrival_locked_inside {s : State} {e : Int} (locked : s.clock.state = .locked)
    (inside : e.natAbs ≤ s.clock.window) :
    s.lockArrival e = s.setClock { s.clock with
      ordered := some { error := e, takenIn := s.clock.state }, lockRun := 0 } := by
  simp [lockArrival, locked, inside]

theorem lockArrival_locked_outside {s : State} {e : Int} (locked : s.clock.state = .locked)
    (outside : s.clock.window < e.natAbs) (run : s.clock.lockRun < 3) :
    s.lockArrival e = s.setClock { s.clock with
      ordered := some { error := e, takenIn := s.clock.state }, lockRun := s.clock.lockRun + 1 } := by
  have short : s.clock.lockRun + 1 < 4 := by omega
  simp [lockArrival, locked, outside, short]

/-- R16: the fourth arrival in a row outside the window unlocks, and the takes have their notice at once. -/
theorem lockArrival_unlocks {s : State} {e : Int} (locked : s.clock.state = .locked)
    (outside : s.clock.window < e.natAbs) (run : s.clock.lockRun = 3) :
    s.lockArrival e = ((s.setClock { s.clock with
      ordered := some { error := e, takenIn := s.clock.state }, lockRun := 0
      crashEligible := true }).changeClock .locking .unlockRun none).giveUnlocked := by
  simp [lockArrival, locked, outside, run]

/-! ## Arrivals (R11, R16, R17, R20) -/

/-- R16: an arrival that crash lock does not judge. -/
theorem arrival_not_eligible {s : State} (taken : s.arrivalTaken = true)
    (state : s.clock.state = .locking ∨ s.clock.state = .locked) (eligible : s.clock.crashEligible = false) :
    s.crashDue = false ∧
      s.arrival = (s.setClock { s.clock with arrived := true, missingRun := 0 }).lockArrival s.errorNow := by
  have other : ¬ (s.clock.state = .freeRun ∨ s.clock.state = .holdover) := by rcases state with h | h <;> simp [h]
  have stays := beginArrival_stays other
  have not_eligible : s.beginArrival.clock.crashEligible = false := by rw [stays]; exact eligible
  constructor
  · simp [crashDue, not_eligible]
  · simp only [arrival, taken, not_eligible, if_true, Bool.false_eq_true, if_false]
    rw [stays]

/-- R20: an arrival that crash lock judges and declines. -/
theorem arrival_declined {s : State} (taken : s.arrivalTaken = true) (eligible : s.beginArrival.clock.crashEligible = true)
    (declined : s.crashAllowed s.errorNow = false) :
    s.crashDue = false ∧ s.arrival =
      (s.beginArrival.setClock { s.beginArrival.clock with crashEligible := false }).lockArrival s.errorNow := by
  rw [← beginArrival_crashAllowed] at declined
  constructor
  · simp [crashDue, declined]
  · have declined' := (crashAllowed_congr
      (t := s.beginArrival.setClock { s.beginArrival.clock with crashEligible := false }) rfl rfl rfl _).trans declined
    simp only [arrival, taken, eligible, if_true, declined', Bool.false_eq_true, if_false]

/-- R17, R20: an arrival that crash lock declines, in FREE or HOLDOVER, is the first of its spell. -/
theorem arrival_declined_relocking {s : State} (taken : s.arrivalTaken = true)
    (state : s.clock.state = .freeRun ∨ s.clock.state = .holdover) (declined : s.crashAllowed s.errorNow = false) :
    s.crashDue = false ∧ s.arrival =
      (({ s with writer := { s.writer with clock := true } } : State).handReport
        { position := s.here, urgent := false
          body := .clockState s.clock.state .locking .arrival none }).setClock { s.clock.relocking with
        crashEligible := false, ordered := some { error := s.errorNow, takenIn := .locking }
        lockRun := if s.errorNow.natAbs ≤ s.clock.window then 1 else 0 } := by
  have moves := beginArrival_moves state
  have eligible : s.beginArrival.clock.crashEligible = true := by rw [moves]; rfl
  obtain ⟨not_due, arrives⟩ := arrival_declined taken eligible declined
  refine ⟨not_due, ?_⟩
  rw [arrives, lockArrival_locking (by rw [moves]; rfl) (by rw [moves]; exact Nat.zero_lt_succ 6), moves]
  rfl

/-- R20: an arrival that crash-locks. -/
theorem arrival_crashes {s : State} (taken : s.arrivalTaken = true) (eligible : s.beginArrival.clock.crashEligible = true)
    (allowed : s.crashAllowed s.errorNow = true) :
    s.crashDue = true ∧ s.arrival =
      (s.beginArrival.setClock { s.beginArrival.clock with crashEligible := false }).crashLock s.errorNow := by
  rw [← beginArrival_crashAllowed] at allowed
  constructor
  · simp [crashDue, taken, eligible, allowed]
  · have allowed' := (crashAllowed_congr
      (t := s.beginArrival.setClock { s.beginArrival.clock with crashEligible := false }) rfl rfl rfl _).trans allowed
    simp only [arrival, taken, eligible, if_true, allowed']

/-- Settles O24: the row's edge by the rules of R187; an arrival that is not taken, one that crash lock does not judge by the
cases of the lock run, and one that it declines. -/
theorem arrivalsAdvanceTheLockRun : Obligations.ArrivalsAdvanceTheLockRun := by
  intro w level s u0 u1 u run m p e c
  have row : run = .next (takeIfDue .hrefEdge u0) := rfl
  clear_value u0 run
  have rise (third : 3 ≤ u0.pins.href.samples) (low : u0.pins.href.level = false) {q : State}
      (h : u.crashDue = false ∧ u.arrival = q) : run = .next q := by
    rw [row, takeIfDue_hrefEdge third, hrefEdge_arrival low h.1]
    exact congrArg _ h.2
  clear_value u
  refine ⟨fun few => row.trans (congrArg _ (takeIfDue_hrefEdge_early few)), fun third high => ?_, fun third low =>
    ⟨fun untaken => ?_, fun fresh eligible => ?_, fun fresh declined => ?_⟩⟩
  · rw [row, takeIfDue_hrefEdge third, hrefEdge_fall high]
    rfl
  · have not_taken : u.arrivalTaken = false := by
      refine Bool.eq_false_iff.mpr fun h => ?_
      obtain ⟨running, fresh, on⟩ := (arrivalTaken_iff u).mp h
      rcases untaken with stopped | arrived | off
      · exact running stopped
      · rw [arrived] at fresh; cases fresh
      · exact on off
    refine rise third low ⟨Bool.eq_false_iff.mpr fun due => ?_, arrival_not_taken not_taken⟩
    rw [crashDue_taken due] at not_taken
    cases not_taken
  · let z := u.setClock { u.clock with arrived := true, missingRun := 0 }
    have judged (state : u.clock.state = .locking ∨ u.clock.state = .locked) {q : State}
        (h : z.lockArrival e = q) : run = .next q := by
      have taken : u.arrivalTaken = true :=
        (arrivalTaken_iff u).mpr ⟨by rcases state with h | h <;> simp [h], fresh, by rcases state with h | h <;> simp [h]⟩
      obtain ⟨not_due, arrives⟩ := arrival_not_eligible taken state eligible
      exact rise third low ⟨not_due, arrives.trans h⟩
    refine ⟨fun locking inside short => ?_, fun locking outside => ?_, fun locking inside eighth => ?_,
      fun locked inside => ?_, fun locked outside short => ?_, fun locked outside fourth => ?_⟩
    · refine judged (.inl locking) ((lockArrival_locking (s := z) locking short).trans ?_)
      rw [if_pos (show e.natAbs ≤ z.clock.window from inside)]
      rfl
    · exact judged (.inl locking) (lockArrival_locking_outside (s := z) locking outside)
    · refine judged (.inl locking) ((lockArrival_locks (s := z) locking inside eighth).trans ?_)
      have locks : (z.setClock { c with lockRun := 0 }).clock.state = .locking := locking
      exact changeClock_unlocked locks (by decide) .locked .lockRun none
    · exact judged (.inr locked) (lockArrival_locked_inside (s := z) locked inside)
    · exact judged (.inr locked) (lockArrival_locked_outside (s := z) locked outside short)
    · refine judged (.inr locked) ((lockArrival_unlocks (s := z) locked outside fourth).trans ?_)
      have leaves : (z.setClock { c with lockRun := 0, crashEligible := true }).clock.state = .locked := locked
      exact changeClock_notice leaves .locking .unlockRun none
  have not_allowed : u.crashAllowed u.errorNow = false := by
    refine Bool.eq_false_iff.mpr fun h => ?_
    obtain ⟨far, permit, closed⟩ := (crashAllowed_iff u _).mp h
    rcases declined with near | refused | takeOpen
    · exact absurd far (Nat.not_lt.mpr near)
    · rw [refused] at permit; cases permit
    · rw [takeOpen] at closed; cases closed
  refine ⟨fun state => ?_, fun locking eligible short => ?_⟩
  · have running : u.clock.state ≠ .stopped := by rcases state with ⟨h, _⟩ | h <;> simp [h]
    have on : ¬ (u.clock.state = .freeRun ∧ u.clock.refUse = false) := by rcases state with ⟨_, h⟩ | h <;> simp [h]
    have taken := (arrivalTaken_iff u).mpr ⟨running, fresh, on⟩
    refine ⟨_, rise third low (arrival_declined_relocking taken (state.imp_left And.left) not_allowed), rfl, rfl⟩
  · have taken : u.arrivalTaken = true := (arrivalTaken_iff u).mpr ⟨by simp [locking], fresh, by simp [locking]⟩
    have stays : u.beginArrival = u.setClock { u.clock with arrived := true, missingRun := 0 } :=
      beginArrival_stays (by simp [locking])
    obtain ⟨not_due, arrives⟩ := arrival_declined taken (by rw [stays]; exact eligible) not_allowed
    refine rise third low ⟨not_due, arrives.trans ?_⟩
    let z := u.setClock { u.clock with arrived := true, missingRun := 0, crashEligible := false }
    have locking' : z.clock.state = .locking := locking
    have advances := lockArrival_locking (e := e) locking' short
    rw [locking'] at advances
    rw [stays]
    exact advances

end Sys2Proof.Machine
end

section
/-! SUPPORT. What a crash lock's step notice (R21) does in the blocks that keep cadences or words: what a property must be closed
under to be kept by the roster's, the Jam Controller's and the outputs' part in it, and what the ports and the outputs have
after it. -/

namespace Sys2Proof.Machine

open State

/-! ## What the roster, the Jam Controller and the Report Writer change at a step -/

/-- R71: what of an output its word boundary leaves as it is, save for a pending setting that applies. -/
def Output.placed (x : Output) : OutputSettings × FrameNo × Nat × Option OutputSettings :=
  (x.settings, x.anchor, x.wordFrame, x.pending)

/-- A property closed under what the roster, the Jam Controller, the Take Table and the Report Writer change at a word boundary,
and under what the boundary changes of an output besides its setting. -/
structure StepKept (P : State → Prop) : Prop where
  device : ∀ (s : State) d x, P s → P (s.setDevice d x)
  run : ∀ (s : State) o r, P s → P (s.setRun o r)
  notice : ∀ (s : State) p f, P s → P (s.noticeTakes p f)
  report : ∀ (s : State) r, P s → P (s.handReport r)
  completion : ∀ (s : State) c, P s → P (s.handCompletion c)
  output : ∀ (s : State) o x, x.placed = s.outputs[o].placed → P s → P (s.setOutput o x)

namespace StepKept

variable {P : State → Prop} {s : State}

/-- None of these owes a boundary's silence count. -/
theorem and_counted (K : StepKept P) : StepKept fun s => P s ∧ s.owed.count = false where
  device s d x h := ⟨K.device s d x h.1, h.2⟩
  run s o r h := ⟨K.run s o r h.1, h.2⟩
  notice s p f h := ⟨K.notice s p f h.1, h.2⟩
  report s r h := ⟨K.report s r h.1, by rw [handReport_owed]; exact h.2⟩
  completion s c h := ⟨K.completion s c h.1, by rw [handCompletion_owed]; exact h.2⟩
  output s o x hx h := ⟨K.output s o x hx h.1, h.2⟩

variable (K : StepKept P)

include K

theorem moveDevice (d previous r reason offset extra) (h : P s) : P (s.moveDevice d previous r reason offset extra) := by
  unfold State.moveDevice State.report
  dsimp only
  split
  · exact K.notice _ _ _ (K.report _ _ (K.device _ _ _ h))
  · exact K.report _ _ (K.device _ _ _ h)

/-! ### The Jam Controller -/

theorem requestBurst {o : OutputId} {t : State} (h : P s) (accepted : s.requestBurst o = some t) : P t := by
  unfold State.requestBurst at accepted
  dsimp only at accepted
  split at accepted
  · cases accepted
    exact K.output _ _ _ rfl h
  · cases accepted

theorem autoCheck (o : OutputId) (h : P s) : P (State.autoCheck o s) := by
  unfold State.autoCheck
  split
  · split
    · next accepted => exact K.run _ _ _ (K.requestBurst h accepted)
    · exact h
  · exact h

theorem failListener (d : DeviceId) (h : P s) : P (State.failListener d s) := by
  unfold State.failListener
  split
  · exact h
  · split
    · exact K.moveDevice _ _ _ _ _ _ h
    · exact K.device _ _ _ h

theorem failWaiting (waiting : DeviceSet) (h : P s) : P (State.failWaiting waiting s) := by
  unfold State.failWaiting
  refine Kept.forEach 16 (fun d s h => ?_) h
  split
  · exact K.failListener d h
  · exact h

theorem endRun (o : OutputId) (cause : RunCause) (h : P s) : P (State.endRun o cause s) := by
  unfold State.endRun
  split
  · exact h
  · next r _ =>
    have reported := K.report _ { position := (State.failWaiting r.waiting s).here
                                  urgent := decide (r.failed ||| r.waiting ≠ 0)
                                  body := .jamResult o r.origin cause r.attempts r.ok (r.failed ||| r.waiting) r.blind }
      (K.failWaiting r.waiting h)
    dsimp only
    refine K.autoCheck o (K.run _ _ _ ?_)
    split
    · exact K.completion _ _ reported
    · exact reported

theorem enterJamming (d : DeviceId) (h : P s) : P (State.enterJamming d s) := by
  unfold State.enterJamming
  split
  · exact h
  · split
    · exact h
    · exact K.moveDevice _ _ _ _ _ _ h

theorem burstBegun (o : OutputId) (h : P s) : P (State.burstBegun o s) := by
  unfold State.burstBegun
  split
  · exact h
  · refine K.notice _ _ _ (Kept.forEach 16 (fun d s h => ?_) (K.run _ _ _ h))
    split
    · exact K.enterJamming d h
    · exact h

theorem burstEnd (o : OutputId) (h : P s) : P (State.burstEnd o s) := by
  unfold State.burstEnd
  split
  · exact h
  · split
    · exact K.endRun o _ h
    · exact K.run _ _ _ h

/-! ### The roster -/

theorem enterSilent (d : DeviceId) (h : P s) (made : s.owed.count = false) : P (State.enterSilent d s) := by
  unfold State.enterSilent
  rw [counted_made made]
  dsimp only
  split
  · exact h
  · exact K.moveDevice _ _ _ _ _ _ h

theorem closeSilences (h : P s) (made : s.owed.count = false) : P s.closeSilences := by
  have each (d : DeviceId) (s : State) (h : P s ∧ s.owed.count = false) :
      P (if s.silent d then State.enterSilent d s else s) ∧
        (if s.silent d then State.enterSilent d s else s).owed.count = false := by
    split
    · exact K.and_counted.enterSilent d h h.2
    · exact h
  exact (Kept.forEach (P := fun s => P s ∧ s.owed.count = false) 16 each ⟨h, made⟩).1

theorem rosterFirst (h : P s) : P s.rosterFirst := by
  unfold State.rosterFirst
  split
  · exact h
  · next made => exact K.closeSilences h (Bool.eq_false_iff.mpr made)

end StepKept

/-! ## A word boundary at one output (R61, R71) -/

theorem placed_finish (x : Output) : x.finish.placed = x.placed := by
  unfold Output.finish
  split <;> rfl

theorem placed_nextState (x : Output) : x.nextState.placed = x.placed := by
  unfold Output.nextState
  split
  · split
    · split <;> rfl
    · split_ifs <;> rfl
    · rfl
    all_goals rfl
  · rfl

theorem placed_startBurst (x : Output) : x.startBurst.placed = x.placed := by
  unfold Output.startBurst
  split
  · rfl
  · rfl
  · split <;> rfl
  all_goals rfl

/-- R68: a pending setting is in force once the output has settled. -/
theorem placed_settle (x : Output) :
    x.settle.placed = (x.pending.getD x.settings, x.anchor, x.wordFrame, none) := by
  unfold Output.settle
  cases pending : x.pending with
  | none => simp [Output.placed, pending]
  | some new => rfl

namespace StepKept

variable {P : State → Prop} {s : State} (K : StepKept P)

include K

theorem finishWord (o : OutputId) (h : P s) : P (State.finishWord o s) := by
  unfold State.finishWord
  have finished := K.output s o s.outputs[o].finish (placed_finish _) h
  dsimp only
  split
  · exact K.burstEnd o finished
  · exact finished

theorem advanceOutput (o : OutputId) (h : P s) : P (State.advanceOutput o s) := by
  unfold State.advanceOutput
  have advanced : P (s.setOutput o
      (if s.outputs[o].requestStarts s.frame then s.outputs[o].startBurst else s.outputs[o].nextState)) := by
    split
    · exact K.output s o _ (placed_startBurst _) h
    · exact K.output s o _ (placed_nextState _) h
  dsimp only
  generalize (if s.outputs[o].requestStarts s.frame then s.outputs[o].startBurst else s.outputs[o].nextState) = y
    at advanced ⊢
  split
  · exact K.endRun o .cut advanced
  · split
    · exact K.burstBegun o (K.rosterFirst advanced)
    · exact advanced

theorem beginWord (o : OutputId) (h : P s) : P (State.beginWord o s) := by
  unfold State.beginWord
  dsimp only
  split
  · exact K.output s o _ rfl h
  · exact K.output s o _ rfl h

end StepKept

/-- One that the outputs' own settings play no part in either. -/
structure OutputsKept (P : State → Prop) : Prop extends StepKept P where
  anyOutput : ∀ (s : State) o x, P s → P (s.setOutput o x)

theorem OutputsKept.stepOutput {P : State → Prop} (K : OutputsKept P) {s : State} (o : OutputId) (h : P s) :
    P (State.stepOutput o s) :=
  K.beginWord o (K.advanceOutput o (K.anyOutput _ o _ (K.finishWord o (K.anyOutput s o _ h))))

/-- One that the ports play no part in either: a crash lock's whole step keeps it. -/
structure BlocksKept (P : State → Prop) : Prop extends OutputsKept P where
  port : ∀ (s : State) i p, P s → P (s.setPort i p)

namespace BlocksKept

variable {P : State → Prop} {s : State} (K : BlocksKept P)

include K

theorem stepPort (i : PortId) (h : P s) : P (State.stepPort i s) := by
  unfold State.stepPort
  have anchored : P (if s.ports[i].active.isSome then s.setPort i (s.ports[i].anchorAt s.frame) else s) := by
    split
    · exact K.port _ _ _ h
    · exact h
  dsimp only
  generalize (if s.ports[i].active.isSome then s.setPort i (s.ports[i].anchorAt s.frame) else s) = t at anchored ⊢
  split
  · exact K.notice _ _ _ (K.report _ _ (K.port _ _ _ anchored))
  · exact anchored

theorem stepPorts (h : P s) : P (forEach 12 State.stepPort s) := Kept.forEach 12 (fun i _ => K.stepPort i) h

/-- R21: the step notice in the blocks, from the state in which the inputs have taken it. -/
theorem stepBlocks (h : P s.stepInputs) : P s.stepBlocks :=
  Kept.forEach 4 (fun o _ => K.stepOutput o) (K.stepPorts h)

end BlocksKept

/-! ## What a step leaves as it is -/

/-- t is s after changes of the ports, outputs, devices, runs, groups, writer and store. -/
def SteppedFrom (s t : State) : Prop :=
  ∃ ports outputs devices runs groups writer store,
    t = { s with
      ports := ports, outputs := outputs, devices := devices, runs := runs, groups := groups, writer := writer
      store := store }

theorem steppedFrom_self (s : State) : SteppedFrom s s := ⟨_, _, _, _, _, _, _, rfl⟩

theorem steppedFrom_kept (s : State) : BlocksKept (SteppedFrom s) where
  device t d x := by rintro ⟨_, _, _, _, _, _, _, rfl⟩; exact ⟨_, _, _, _, _, _, _, rfl⟩
  run t o r := by rintro ⟨_, _, _, _, _, _, _, rfl⟩; exact ⟨_, _, _, _, _, _, _, rfl⟩
  notice t p f := by rintro ⟨_, _, _, _, _, _, _, rfl⟩; exact ⟨_, _, _, _, _, _, _, rfl⟩
  report t r := by rintro ⟨_, _, _, _, _, _, _, rfl⟩; rw [handReport_frame]; exact ⟨_, _, _, _, _, _, _, rfl⟩
  completion t c := by rintro ⟨_, _, _, _, _, _, _, rfl⟩; rw [handCompletion_frame]; exact ⟨_, _, _, _, _, _, _, rfl⟩
  output t o x _ := by rintro ⟨_, _, _, _, _, _, _, rfl⟩; exact ⟨_, _, _, _, _, _, _, rfl⟩
  anyOutput t o x := by rintro ⟨_, _, _, _, _, _, _, rfl⟩; exact ⟨_, _, _, _, _, _, _, rfl⟩
  port t i p := by rintro ⟨_, _, _, _, _, _, _, rfl⟩; exact ⟨_, _, _, _, _, _, _, rfl⟩

/-- While READY is 1 the output queue only gains items. -/
def QueueGrows (queue : List QueueItem) (t : State) : Prop :=
  t.bus.ready = true ∧ ∃ rest, t.writer.queue = queue ++ rest

theorem queueGrows_handReport {queue : List QueueItem} {t : State} (r : Report) (h : QueueGrows queue t) :
    QueueGrows queue (t.handReport r) := by
  obtain ⟨ready, rest, grown⟩ := h
  rcases Nat.lt_or_ge (reportsWaiting t.writer.queue) 64 with room | full
  · rw [handReport_accepted ready room]
    exact ⟨ready, rest ++ [.report r], by rw [grown, List.append_assoc]⟩
  · rw [handReport_dropped ready full]
    exact ⟨ready, rest, grown⟩

theorem queueGrows_handCompletion {queue : List QueueItem} {t : State} (c : Completion) (h : QueueGrows queue t) :
    QueueGrows queue (t.handCompletion c) := by
  obtain ⟨ready, rest, grown⟩ := h
  have accepted : t.handCompletion c = t.acceptCompletion c := if_pos ready
  rw [accepted]
  exact ⟨ready, rest ++ [.completion { c with fence := t.writer.accepted }],
    by rw [acceptCompletion, setWriter_writer, grown, List.append_assoc]⟩

theorem queueGrows_kept (queue : List QueueItem) : BlocksKept (QueueGrows queue) where
  device _ _ _ h := h
  run _ _ _ h := h
  notice _ _ _ h := h
  report _ r h := queueGrows_handReport r h
  completion _ c h := queueGrows_handCompletion c h
  output _ _ _ _ h := h
  anyOutput _ _ _ h := h
  port _ _ _ h := h

/-- R23, R176: of the store's words only the dropped total and the mirror have changed since s. -/
def OnlyMirrorWritten (s t : State) : Prop :=
  t.storeSound ∧ ∀ a, a < 4 ∨ 7 < a → t.word a = s.word a

theorem onlyMirrorWritten_putWord {s t : State} {a : Nat} (w : Word) (mirror : 4 ≤ a ∧ a ≤ 7)
    (h : OnlyMirrorWritten s t) : OnlyMirrorWritten s (t.putWord a w) := by
  refine ⟨Memory.wf_putWord a w h.1, fun b other => ?_⟩
  have apart : b ≠ a := by omega
  exact ((Memory.word_putWord a w b h.1).trans (if_neg apart)).trans (h.2 b other)

theorem onlyMirrorWritten_handReport {s t : State} (r : Report) (h : OnlyMirrorWritten s t) :
    OnlyMirrorWritten s (t.handReport r) := by
  have dropped : 4 ≤ Address.droppedTotal ∧ Address.droppedTotal ≤ 7 := by decide
  cases ready : t.bus.ready
  · rcases Nat.lt_or_ge (reportsWaiting t.writer.kept) 64 with room | full
    · rw [handReport_kept ready room]; exact h
    · rw [handReport_lost ready full]; exact h
  · rcases Nat.lt_or_ge (reportsWaiting t.writer.queue) 64 with room | full
    · rw [handReport_accepted ready room]; exact h
    · rw [handReport_dropped ready full]; exact onlyMirrorWritten_putWord _ dropped h

theorem onlyMirrorWritten_writeMirror {s t : State} (h : OnlyMirrorWritten s t) : OnlyMirrorWritten s t.writeMirror := by
  unfold writeMirror
  split
  · exact onlyMirrorWritten_putWord _ (by decide) (onlyMirrorWritten_putWord _ (by decide)
      (onlyMirrorWritten_putWord _ (by decide) h))
  · exact h

theorem onlyMirrorWritten_kept (s : State) : BlocksKept (OnlyMirrorWritten s) where
  device _ _ _ h := h
  run _ _ _ h := h
  notice _ _ _ h := h
  report _ r h := onlyMirrorWritten_handReport r h
  completion _ c h := by rw [handCompletion_frame]; exact h
  output _ _ _ _ h := h
  anyOutput _ _ _ h := h
  port _ _ _ h := h

/-! ## The ports at a step (R33, R35) -/

/-- R35: an active port re-anchors, and a pending setting or off then applies. -/
def Port.stepped (p : Port) (f : FrameNo) : Port :=
  (if p.active.isSome then p.anchorAt f else p).applied f

theorem setPort_self (s : State) (i : PortId) : s.setPort i s.ports[i] = s := by
  simp [setPort]

theorem setPort_setPort (s : State) (i : PortId) (p q : Port) : (s.setPort i p).setPort i q = s.setPort i q := by
  simp [setPort]

@[simp] theorem setPort_own (s : State) (i : PortId) (p : Port) : (s.setPort i p).ports[i] = p := Vector.getElem_set_self _

theorem stepPort_anchored (s : State) (i : PortId) :
    (if s.ports[i].active.isSome then s.setPort i (s.ports[i].anchorAt s.frame) else s) =
      s.setPort i (if s.ports[i].active.isSome then s.ports[i].anchorAt s.frame else s.ports[i]) := by
  split
  · rfl
  · exact (setPort_self s i).symm

theorem anchored_pending (p : Port) (f : FrameNo) :
    (if p.active.isSome then p.anchorAt f else p).pending = p.pending := by
  split <;> rfl

theorem stepPort_not_pending {s : State} {i : PortId} (h : s.ports[i].pending = none) :
    stepPort i s = s.setPort i (s.ports[i].stepped s.frame) := by
  have settled : s.ports[i].stepped s.frame = if s.ports[i].active.isSome then s.ports[i].anchorAt s.frame else s.ports[i] := by
    rw [Port.stepped, Port.applied, anchored_pending, h]
  unfold stepPort
  rw [stepPort_anchored, settled]
  simp only [setPort_own, anchored_pending, h, Option.isSome_none, Bool.false_eq_true, if_false]

theorem stepPort_pending {s : State} {i : PortId} {p : Port} (h : s.ports[i].pending ≠ none)
    (hp : s.ports[i].stepped s.frame = p) :
    stepPort i s = ((s.setPort i p).report false ((s.setPort i p).appliedBody i .step)).rateNotice := by
  subst hp
  unfold stepPort
  rw [stepPort_anchored]
  simp only [setPort_own, anchored_pending, Option.isSome_iff_ne_none.mpr h, if_true, applyPort, setPort_setPort]
  rfl

/-- R33: the report of a port that is active once its setting has applied. -/
theorem appliedBody_active {s : State} {i : PortId} {x : PortSetting} (cause : PortCause) (h : s.ports[i].active = some x) :
    s.appliedBody i cause = .portApplied i .active cause s.ports[i].anchor (x.width s.ticks) := by
  simp only [appliedBody, h]

theorem appliedBody_off {s : State} {i : PortId} (cause : PortCause) (h : s.ports[i].active = none) :
    s.appliedBody i cause = .portApplied i .off cause s.ports[i].anchor 0 := by
  simp only [appliedBody, h]

theorem stepPort_ports (s : State) (i : PortId) :
    (stepPort i s).ports = s.ports.set i (s.ports[i].stepped s.frame) := by
  by_cases h : s.ports[i].pending = none
  · rw [stepPort_not_pending h]; rfl
  · rw [stepPort_pending h rfl, rateNotice, noticeTakes_ports, report_ports]; rfl

theorem stepPort_outputs (s : State) (i : PortId) : (stepPort i s).outputs = s.outputs := by
  by_cases h : s.ports[i].pending = none
  · rw [stepPort_not_pending h]; rfl
  · rw [stepPort_pending h rfl, rateNotice, noticeTakes_outputs, report_outputs]; rfl

theorem stepPort_frame (s : State) (i : PortId) : (stepPort i s).frame = s.frame := by
  obtain ⟨_, _, _, _, _, _, _, h⟩ := (steppedFrom_kept s).stepPort i (steppedFrom_self s)
  rw [h]
  rfl

theorem stepPorts_ports (s : State) (i : PortId) : (forEach 12 stepPort s).ports[i] = s.ports[i].stepped s.frame :=
  forEach_items (item := fun i t => t.ports[i]) (fun t => t.frame = s.frame)
    (fun i t h => (stepPort_frame t i).trans h)
    (fun i j t apart _ => by
      rw [stepPort_ports]
      exact Vector.getElem_set_ne _ _ (fun h => apart (Fin.ext h)))
    s rfl
    (fun i t frame own => by
      rw [stepPort_ports, frame, own]
      exact Vector.getElem_set_self _)
    i

theorem stepPorts_outputs (s : State) : (forEach 12 stepPort s).outputs = s.outputs :=
  Kept.forEach (P := fun t => t.outputs = s.outputs) 12 (fun i t h => (stepPort_outputs t i).trans h) rfl

theorem stepPorts_frame (s : State) : (forEach 12 stepPort s).frame = s.frame :=
  Kept.forEach (P := fun t => t.frame = s.frame) 12 (fun i t h => (stepPort_frame t i).trans h) rfl

theorem ports_kept (ports : Vector Port 12) : OutputsKept fun t => t.ports = ports where
  device _ _ _ h := h
  run _ _ _ h := h
  notice _ _ _ h := h
  report _ _ h := by rw [handReport_ports]; exact h
  completion _ _ h := by rw [handCompletion_ports]; exact h
  output _ _ _ _ h := h
  anyOutput _ _ _ h := h

/-- R35: the ports once every block has taken the step. -/
theorem stepBlocks_ports (s : State) (i : PortId) : s.stepBlocks.ports[i] = s.ports[i].stepped s.frame := by
  have kept : s.stepBlocks.ports = (forEach 12 stepPort s.stepInputs).ports :=
    Kept.forEach (P := fun t => t.ports = (forEach 12 stepPort s.stepInputs).ports) 4
      (fun o _ => (ports_kept _).stepOutput o) rfl
  rw [kept]
  exact stepPorts_ports s.stepInputs i

/-! ## The outputs at a step (R68, R71) -/

theorem setOutput_own (s : State) (o : OutputId) (x : Output) : (s.setOutput o x).outputs[o] = x :=
  Vector.getElem_set_self _

theorem setOutput_other {o j : OutputId} (apart : o ≠ j) (s : State) (x : Output) :
    (s.setOutput o x).outputs[j] = s.outputs[j] :=
  Vector.getElem_set_ne o.isLt j.isLt (fun e => apart (Fin.ext e))

theorem placed_kept (j : OutputId) (k : OutputSettings × FrameNo × Nat × Option OutputSettings) :
    StepKept fun t => t.outputs[j].placed = k where
  device _ _ _ h := h
  run _ _ _ h := h
  notice _ _ _ h := h
  report _ _ h := by rw [handReport_outputs]; exact h
  completion _ _ h := by rw [handCompletion_outputs]; exact h
  output t o x same h := by
    by_cases own : o = j
    · subst own
      rw [setOutput_own]
      exact same.trans h
    · rw [setOutput_other own]
      exact h

theorem stepOutput_other {o j : OutputId} (apart : o ≠ j) (s : State) :
    (stepOutput o s).outputs[j].placed = s.outputs[j].placed := by
  have K := placed_kept j s.outputs[j].placed
  refine K.beginWord o (K.advanceOutput o ?_)
  rw [settleOutput, setOutput_other apart]
  refine K.finishWord o ?_
  rw [setOutput_other apart]

theorem stepOutput_own (o : OutputId) (s : State) :
    (stepOutput o s).outputs[o].placed = (s.outputs[o].pending.getD s.outputs[o].settings, s.frame, 0, none) := by
  have K := placed_kept o (s.outputs[o].pending.getD s.outputs[o].settings, s.frame, 0, none)
  refine K.beginWord o (K.advanceOutput o ?_)
  have finished := (placed_kept o (s.outputs[o].settings, s.frame, 0, s.outputs[o].pending)).finishWord o
    (s := s.setOutput o { s.outputs[o] with anchor := s.frame, wordFrame := 0 }) (by rw [setOutput_own]; rfl)
  rw [settleOutput, setOutput_own, placed_settle]
  simp only [Output.placed, Prod.mk.injEq] at finished
  obtain ⟨settings, anchor, wordFrame, pending⟩ := finished
  rw [settings, anchor, wordFrame, pending]

theorem stepOutput_frame (s : State) (o : OutputId) : (stepOutput o s).frame = s.frame := by
  obtain ⟨_, _, _, _, _, _, _, h⟩ := (steppedFrom_kept s).stepOutput o (steppedFrom_self s)
  rw [h]
  rfl

/-- R71: the outputs once every block has taken the step. -/
theorem stepBlocks_outputs (s : State) (o : OutputId) :
    s.stepBlocks.outputs[o].placed = (s.outputs[o].pending.getD s.outputs[o].settings, s.frame, 0, none) := by
  let t := forEach 12 stepPort s.stepInputs
  have outputs : t.outputs = s.outputs := stepPorts_outputs s.stepInputs
  have frame : t.frame = s.frame := stepPorts_frame s.stepInputs
  have stepped := forEach_items (f := stepOutput) (item := fun o t => t.outputs[o].placed)
    (g := fun o => (t.outputs[o].pending.getD t.outputs[o].settings, t.frame, 0, none)) (fun z => z.frame = t.frame)
    (fun o z h => (stepOutput_frame z o).trans h) (fun i j z apart _ => stepOutput_other apart z) t rfl
    (fun o z same own => by
      simp only [Output.placed, Prod.mk.injEq] at own
      obtain ⟨settings, _, _, pending⟩ := own
      rw [stepOutput_own, same, settings, pending]) o
  rw [outputs, frame] at stepped
  exact stepped

end Sys2Proof.Machine
end

section
/-! SUPPORT. A crash lock (R17, R20, R21, R35, R71, R78, R170): the clock that cuts its frame at an arrival, the reports it hands,
and every block once it has taken the step. -/

namespace Sys2Proof.Machine

open State

/-! ## The clock (R12, R17, R21) -/

/-- R12: a boundary at which the clock is LOCKING, has its arrival and no tune pending, and the ordered error is 0. -/
theorem clockBoundary_locking {s : State} (locking : s.clock.state = .locking) (tune : s.clock.pendingTune = none)
    (arrived : s.clock.arrived = true) (missing : s.clock.missingRun = 0)
    (ordered : s.clock.ordered = some { error := 0, takenIn := .locking }) :
    s.clockBoundary = (s.setClock { s.clock with
      correction := 0, ordered := none, arrived := false, settleOwed := false }).writeMirror := by
  have untuned : s.applyTune = s := by simp only [applyTune, tune]
  let c : Clock := { s.clock with arrived := false }
  have judged : s.clock.judge = c := by simp [Clock.judge, arrived, locking, missing, c]
  have not_missing : c.missing = false := by simp [Clock.missing, missing, c]
  have not_expired : c.expired = false := by simp [Clock.expired, locking, c]
  have settled : c.settle = { s.clock with correction := 0, ordered := none, arrived := false, settleOwed := false } := by
    simp [Clock.settle, Clock.nextCorrection, Clock.recorded, locking, ordered, saturate, c]
  simp only [clockBoundary, untuned, setClock_clock, judged, not_missing, not_expired, Bool.or_false, Bool.false_eq_true,
    if_false, settleClock, settled]
  rfl

/-- R17: the clock whose arrival is the first of a spell in LOCKING, with crash lock judged. -/
def Clock.firstOfSpell (c : Clock) : Clock :=
  { c with
    state := .locking, arrived := true, missingRun := 0, crashEligible := false
    lockRun := if c.state = .locking then c.lockRun else 0
    holdoverValue := if c.state = .locking then c.holdoverValue else none
    holdoverCount := if c.state = .locking then c.holdoverCount else 0 }

/-- R21: the clock once the arrival has cut its frame and the boundary of the next is settled. -/
def Clock.cut (c : Clock) : Clock :=
  { c with
    frame := c.frame + 1, tick := 0, phase := .single, correction := 0, lockRun := c.lockRun + 1, ordered := none
    arrived := false, settleOwed := false }

/-- R22, entry 35: the CLOCK_STATE report of an arrival that moves the clock to LOCKING. -/
def State.movedReport (s : State) : Report :=
  { position := s.here, urgent := false, body := .clockState s.clock.state .locking .arrival none }

/-- R17, R22: the state with the move to LOCKING reported, when the arrival made one. -/
def State.moveReported (s : State) : State :=
  if s.clock.state = .locking then s
  else ({ s with writer := { s.writer with clock := true } } : State).handReport s.movedReport

theorem firstOfSpell_locking {c : Clock} (h : c.state = .locking) :
    c.firstOfSpell = { c with arrived := true, missingRun := 0, crashEligible := false } := by
  simp [Clock.firstOfSpell, h]

theorem firstOfSpell_moved {c : Clock} (h : c.state = .freeRun ∨ c.state = .holdover) :
    c.firstOfSpell = { c.relocking with crashEligible := false } := by
  rcases h with h | h <;> simp [Clock.firstOfSpell, Clock.relocking, h]

theorem beginArrival_firstOfSpell {s : State}
    (h : s.clock.state = .locking ∨ s.clock.state = .freeRun ∨ s.clock.state = .holdover) :
    s.beginArrival.setClock { s.beginArrival.clock with crashEligible := false } =
      s.moveReported.setClock s.clock.firstOfSpell := by
  rcases h with locking | moves
  · rw [beginArrival_stays (by simp [locking]), moveReported, if_pos locking, firstOfSpell_locking locking]
    rfl
  · have other : s.clock.state ≠ .locking := by rcases moves with h | h <;> simp [h]
    rw [beginArrival_moves moves, moveReported, if_neg other, firstOfSpell_moved moves]
    rfl

/-! ## The crash lock up to its step notice (R21) -/

/-- R21: the state in which the blocks take a crash lock's step. -/
def State.frameCut (s : State) (step e : Int) : State :=
  ((s.setClock s.clock.cut).writeMirror.report false (.clockStepped step e s.clock.frame)).boundaryLines

theorem crashLock_eq {s : State} (e : Int) (locking : s.clock.state = .locking) (run : s.clock.lockRun < 7)
    (tune : s.clock.pendingTune = none) (arrived : s.clock.arrived = true) (missing : s.clock.missingRun = 0) :
    s.crashLock e = (s.frameCut ((s.here.tick : Int) - (s.ticks : Int)) e).stepBlocks.boundaryRest := by
  have inside : (0 : Int).natAbs ≤ s.clock.window := Nat.zero_le _
  have boundary := clockBoundary_locking
    (s := s.setClock { s.clock with
      frame := s.clock.frame + 1, tick := 0, phase := .single, lockRun := s.clock.lockRun + 1
      ordered := some { error := 0, takenIn := .locking } }) locking tune arrived missing rfl
  have cut : ((s.lockArrival 0).setClock (s.lockArrival 0).clock.advance).clockBoundary =
      (s.setClock s.clock.cut).writeMirror := by
    rw [lockArrival_locking locking run, if_pos inside, locking]
    exact boundary
  unfold crashLock frameCut
  dsimp only
  rw [cut]
  rfl

/-! ## What the cut leaves as it is, and the reports it hands -/

theorem writeMirror_frame (s : State) : s.writeMirror = { s with store := s.writeMirror.store } := by
  unfold writeMirror
  split <;> rfl

theorem boundaryRest_frame (s : State) :
    s.boundaryRest = { s with owed := { s.owed with count := true, check := true }, scanner := s.boundaryRest.scanner } := by
  unfold boundaryRest scanRequest
  split <;> rfl

theorem boundaryRest_ports (s : State) : s.boundaryRest.ports = s.ports := by rw [boundaryRest_frame]

theorem boundaryRest_outputs (s : State) : s.boundaryRest.outputs = s.outputs := by rw [boundaryRest_frame]

theorem boundaryRest_writer (s : State) : s.boundaryRest.writer = s.writer := by rw [boundaryRest_frame]

theorem onlyMirrorWritten_boundaryRest {s t : State} (h : OnlyMirrorWritten s t) :
    OnlyMirrorWritten s t.boundaryRest := by
  rw [boundaryRest_frame]
  exact h

theorem moveReported_frame (s : State) :
    s.moveReported = { s with writer := s.moveReported.writer, store := s.moveReported.store } := by
  unfold moveReported
  split
  · rfl
  · rw [handReport_frame]

theorem frameCut_frame (s : State) (step e : Int) :
    s.frameCut step e = { s with
      clock := s.clock.cut, lines := (s.frameCut step e).lines, writer := (s.frameCut step e).writer
      store := (s.frameCut step e).store } := by
  unfold frameCut report
  rw [writeMirror_frame, handReport_frame]
  rfl

/-- R21: the state in which the blocks take the step of a crash lock by an arrival taken now. -/
def State.cutByArrival (s : State) : State :=
  (s.moveReported.setClock s.clock.firstOfSpell).frameCut ((s.here.tick : Int) - (s.ticks : Int)) s.errorNow

theorem cutByArrival_frame (s : State) :
    s.cutByArrival = { s with
      clock := s.clock.firstOfSpell.cut, lines := s.cutByArrival.lines, writer := s.cutByArrival.writer
      store := s.cutByArrival.store } := by
  unfold cutByArrival
  rw [frameCut_frame, moveReported_frame]
  rfl

theorem reportsWaiting_append_report (queue : List QueueItem) (r : Report) :
    reportsWaiting (queue ++ [.report r]) = reportsWaiting queue + 1 := by
  induction queue with
  | nil => rfl
  | cons i rest ih => cases i <;> simp [reportsWaiting, ih]

/-- R174: a report that finds room joins the queue. -/
theorem handReport_queue {s : State} {r : Report} (ready : s.bus.ready = true)
    (room : reportsWaiting s.writer.queue < 64) : (s.handReport r).writer.queue = s.writer.queue ++ [.report r] := by
  rw [handReport_accepted ready room]

theorem moveReported_queue {s : State} (ready : s.bus.ready = true) (room : reportsWaiting s.writer.queue + 2 ≤ 64) :
    s.moveReported.writer.queue =
        s.writer.queue ++ (if s.clock.state = .locking then [] else [.report s.movedReport]) ∧
      reportsWaiting s.moveReported.writer.queue < 64 := by
  unfold moveReported
  by_cases locking : s.clock.state = .locking
  · rw [if_pos locking, if_pos locking, List.append_nil]
    exact ⟨rfl, by omega⟩
  · let t : State := { s with writer := { s.writer with clock := true } }
    have waiting : reportsWaiting t.writer.queue + 2 ≤ 64 := room
    have queue := handReport_queue (s := t) (r := s.movedReport) ready (by omega)
    rw [if_neg locking, if_neg locking, queue, reportsWaiting_append_report]
    exact ⟨rfl, by omega⟩

/-- R21, R22: CLOCK_STATE, when the arrival moved the clock, and CLOCK_STEPPED are accepted in that order. -/
theorem cutByArrival_queue {s : State} (ready : s.bus.ready = true) (room : reportsWaiting s.writer.queue + 2 ≤ 64) :
    s.cutByArrival.writer.queue =
      s.writer.queue ++ (if s.clock.state = .locking then [] else [.report s.movedReport]) ++
        [.report { position := { frame := s.clock.frame + 1, tick := 0 }, urgent := false
                   body := .clockStepped ((s.here.tick : Int) - (s.ticks : Int)) s.errorNow s.clock.frame }] := by
  obtain ⟨moved, room'⟩ := moveReported_queue ready room
  let b := (s.moveReported.setClock s.clock.firstOfSpell).setClock s.clock.firstOfSpell.cut
  have frame := writeMirror_frame b
  have ready' : b.writeMirror.bus.ready = true := by
    rw [frame]
    exact (congrArg (fun z => z.bus.ready) (moveReported_frame s)).trans ready
  have same : b.writeMirror.writer = s.moveReported.writer := by rw [frame]; rfl
  have here : b.writeMirror.here = { frame := s.clock.frame + 1, tick := 0 } := by rw [frame]; rfl
  have queue := handReport_queue (s := b.writeMirror) (r :=
    { position := b.writeMirror.here, urgent := false
      body := .clockStepped ((s.here.tick : Int) - (s.ticks : Int)) s.errorNow s.clock.frame }) ready' (by rwa [same])
  rw [same, moved, here] at queue
  rw [← queue, ← here]
  rfl

theorem cutByArrival_words {s : State} (sound : s.storeSound) : OnlyMirrorWritten s s.cutByArrival := by
  have unchanged : OnlyMirrorWritten s s := ⟨sound, fun _ _ => rfl⟩
  have moved : OnlyMirrorWritten s s.moveReported := by
    unfold moveReported
    split
    · exact unchanged
    · exact onlyMirrorWritten_handReport _ unchanged
  exact onlyMirrorWritten_handReport _ (onlyMirrorWritten_writeMirror (t := s.moveReported.setClock _) moved)

/-! ## The conditions of a crash lock (R11, R17, R20) -/

/-- R20: an arrival taken now is the first of its spell in LOCKING and meets the conditions of a crash lock, short of the
eighth arrival of a lock run. -/
def State.cutsFrame (s : State) : Prop :=
  s.clock.arrived = false ∧
    ((s.clock.state = .locking ∧ s.clock.crashEligible = true ∧ s.clock.lockRun < 7) ∨
      (s.clock.state = .freeRun ∧ s.clock.refUse = true) ∨ s.clock.state = .holdover) ∧
    8 * s.clock.slew < s.errorNow.natAbs ∧ s.clock.crashPermit = true ∧ s.anyOpen = false

theorem cutsFrame_crashes {s : State} (h : s.cutsFrame) :
    s.crashDue = true ∧ s.arrival =
      (s.beginArrival.setClock { s.beginArrival.clock with crashEligible := false }).crashLock s.errorNow := by
  obtain ⟨fresh, spell, far, permit, closed⟩ := h
  have taken : s.arrivalTaken = true := by
    refine (arrivalTaken_iff s).mpr ⟨?_, fresh, ?_⟩ <;>
      rcases spell with ⟨h, _⟩ | ⟨h, on⟩ | h <;> simp [h]
    exact on
  have eligible : s.beginArrival.clock.crashEligible = true := by
    rw [beginArrival_crashEligible]
    rcases spell with ⟨h, eligible, _⟩ | ⟨h, _⟩ | h
    · simp [eligible]
    · simp [h]
    · simp [h]
  exact arrival_crashes taken eligible ((crashAllowed_iff s _).mpr ⟨far, permit, closed⟩)

/-- R21: the state after a crash lock by an arrival taken now: every block has taken the step. -/
def State.crashLocked (s : State) : State := s.cutByArrival.stepBlocks.boundaryRest

theorem arrival_cuts {s : State} (h : s.cutsFrame) (tune : s.clock.pendingTune = none) : s.arrival = s.crashLocked := by
  rw [(cutsFrame_crashes h).2]
  obtain ⟨_, spell, _⟩ := h
  rw [beginArrival_firstOfSpell (by
    rcases spell with ⟨h, _⟩ | ⟨h, _⟩ | h
    · exact .inl h
    · exact .inr (.inl h)
    · exact .inr (.inr h))]
  have run : s.clock.firstOfSpell.lockRun < 7 := by
    rcases spell with ⟨h, _, run⟩ | ⟨h, _⟩ | h <;> simp [Clock.firstOfSpell, h]
    exact run
  exact crashLock_eq s.errorNow (s := s.moveReported.setClock s.clock.firstOfSpell) rfl run tune rfl rfl

/-! ## The state after a crash lock (R21, R35, R71, R78) -/

theorem crashLocked_frame (s : State) :
    s.crashLocked = { s with
      clock := s.clock.firstOfSpell.cut, ports := s.crashLocked.ports, lines := s.crashLocked.lines
      outputs := s.crashLocked.outputs, inputs := s.stepInputs.inputs, devices := s.crashLocked.devices
      runs := s.crashLocked.runs, groups := s.crashLocked.groups, scanner := s.crashLocked.scanner
      writer := s.crashLocked.writer, store := s.crashLocked.store
      owed := { s.owed with count := true, check := true } } := by
  obtain ⟨ports, outputs, devices, runs, groups, writer, store, stepped⟩ :=
    (steppedFrom_kept s.cutByArrival.stepInputs).stepBlocks (steppedFrom_self _)
  unfold crashLocked
  rw [boundaryRest_frame, stepped, stepInputs, cutByArrival_frame]
  rfl

theorem crashLocked_clock (s : State) :
    s.crashLocked.clock = { s.clock with
      state := .locking, frame := s.clock.frame + 1, tick := 0, phase := .single, correction := 0, missingRun := 0
      lockRun := if s.clock.state = .locking then s.clock.lockRun + 1 else 1, crashEligible := false
      holdoverValue := if s.clock.state = .locking then s.clock.holdoverValue else none
      holdoverCount := if s.clock.state = .locking then s.clock.holdoverCount else 0
      ordered := none, arrived := false, settleOwed := false } := by
  have clock : s.crashLocked.clock = s.clock.firstOfSpell.cut := congrArg State.clock (crashLocked_frame s)
  rw [clock]
  by_cases locking : s.clock.state = .locking <;> simp [Clock.cut, Clock.firstOfSpell, locking]

theorem crashLocked_queue {s : State} (ready : s.bus.ready = true) :
    ∃ rest, s.crashLocked.writer.queue = s.cutByArrival.writer.queue ++ rest := by
  have ready' : s.cutByArrival.bus.ready = true := by rw [cutByArrival_frame]; exact ready
  obtain ⟨_, grown⟩ := (queueGrows_kept s.cutByArrival.writer.queue).stepBlocks (s := s.cutByArrival)
    ⟨ready', [], (List.append_nil _).symm⟩
  rw [crashLocked, boundaryRest_writer]
  exact grown

theorem crashLocked_ports (s : State) (i : PortId) : s.crashLocked.ports[i] = s.ports[i].stepped (s.clock.frame + 1) := by
  rw [crashLocked, boundaryRest_ports, stepBlocks_ports, cutByArrival_frame]
  rfl

theorem crashLocked_outputs (s : State) (o : OutputId) :
    s.crashLocked.outputs[o].placed =
      (s.outputs[o].pending.getD s.outputs[o].settings, s.clock.frame + 1, 0, none) := by
  rw [crashLocked, boundaryRest_outputs, stepBlocks_outputs, cutByArrival_frame]
  rfl

theorem crashLocked_inputs (s : State) (i : InputId) :
    s.crashLocked.inputs[i].receiver ≠ .word ∧ s.crashLocked.inputs[i].badWords = s.inputs[i].badWords := by
  have inputs : s.crashLocked.inputs[i] =
      if s.inputs[i].receiver = .word then s.inputs[i].restart .hunt else s.inputs[i] := by
    rw [crashLocked_frame]
    exact Vector.getElem_map _ _
  rw [inputs]
  split
  · exact ⟨by simp [Input.restart], rfl⟩
  · next other => exact ⟨other, rfl⟩

theorem crashLocked_words {s : State} (sound : s.storeSound) : OnlyMirrorWritten s s.crashLocked :=
  onlyMirrorWritten_boundaryRest ((onlyMirrorWritten_kept s).stepBlocks (s := s.cutByArrival) (cutByArrival_words sound))

/-! ## A port at the step (R33, R35) -/

theorem stepped_active {p : Port} {x : PortSetting} (f : FrameNo) (active : p.active = some x) (h : p.pending = none) :
    p.stepped f = { p with anchor := f, cadenceFrame := 0, level := false, pulse := none, nextEvent := 0 } := by
  simp [Port.stepped, Port.applied, Port.anchorAt, active, h]

theorem stepped_idle {p : Port} (f : FrameNo) (active : p.active = none) (h : p.pending = none) : p.stepped f = p := by
  simp [Port.stepped, Port.applied, active, h]

theorem stepped_setting {p : Port} {x : PortSetting} (f : FrameNo) (h : p.pending = some (.setting x)) :
    p.stepped f = { active := some x, pending := none, applyFrame := none, anchor := f, cadenceFrame := 0
                    level := false, pulse := none, nextEvent := 0 } := by
  cases active : p.active <;> simp [Port.stepped, Port.applied, Port.anchorAt, Port.clearPending, active, h]

theorem stepped_off_active {p : Port} {y : PortSetting} (f : FrameNo) (active : p.active = some y)
    (h : p.pending = some .off) :
    p.stepped f = { active := none, pending := none, applyFrame := none, anchor := f, cadenceFrame := 0
                    level := false, pulse := none, nextEvent := 0 } := by
  simp [Port.stepped, Port.applied, Port.anchorAt, Port.clearPending, active, h]

theorem stepped_off_idle {p : Port} (f : FrameNo) (active : p.active = none) (h : p.pending = some .off) :
    p.stepped f = { p with pending := none, applyFrame := none, level := false, pulse := none } := by
  simp [Port.stepped, Port.applied, Port.clearPending, active, h]

/-- R33: a pending setting applies at the step and is reported with the port's pulse width. -/
theorem stepPort_applies {s : State} {i : PortId} {p : Port} {x : PortSetting} (h : s.ports[i].pending ≠ none)
    (hp : s.ports[i].stepped s.frame = p) (active : p.active = some x) :
    stepPort i s = ((s.setPort i p).handReport
      { position := s.here, urgent := false, body := .portApplied i .active .step p.anchor (x.width s.ticks) }).rateNotice := by
  have own : (s.setPort i p).ports[i].active = some x := by rw [setPort_own, active]
  rw [stepPort_pending h hp, appliedBody_active .step own, setPort_own]
  rfl

/-- R33: a pending off applies at the step. -/
theorem stepPort_turnsOff {s : State} {i : PortId} {p : Port} (h : s.ports[i].pending ≠ none)
    (hp : s.ports[i].stepped s.frame = p) (off : p.active = none) :
    stepPort i s = ((s.setPort i p).handReport
      { position := s.here, urgent := false, body := .portApplied i .off .step p.anchor 0 }).rateNotice := by
  have own : (s.setPort i p).ports[i].active = none := by rw [setPort_own, off]
  rw [stepPort_pending h hp, appliedBody_off .step own, setPort_own]
  rfl

/-! ## When an arrival may cut the frame (R11, R17, R20) -/

theorem mayCut_iff {s : State} (settled : s.clock.settleOwed = false) :
    s.mayCut = true ↔ 3 ≤ s.pins.href.samples ∧ s.pins.href.level = false ∧ s.clock.arrived = false ∧
      ((s.clock.state = .freeRun ∧ s.clock.refUse = true) ∨ s.clock.state = .holdover ∨
        ((s.clock.state = .locking ∨ s.clock.state = .locked) ∧ s.clock.crashEligible = true)) ∧
      8 * s.clock.slew < s.errorNow.natAbs ∧ s.clock.crashPermit = true := by
  let t := s.setPins s.pins.takeHref
  have closed : t.closeClock = t := closeClock_settled settled
  have possible : t.crashPossible = true ↔
      (t.arrivalTaken = true ∧ t.beginArrival.clock.crashEligible = true) ∧
      8 * s.clock.slew < s.errorNow.natAbs ∧ s.clock.crashPermit = true := by
    rw [crashPossible, beginArrival_crashWanted, Bool.and_eq_true, Bool.and_eq_true]
    refine and_congr_right fun _ => ?_
    simp only [crashWanted, Bool.and_eq_true, decide_eq_true_eq]
    rfl
  have spell : t.arrivalTaken = true ∧ t.beginArrival.clock.crashEligible = true ↔ s.clock.arrived = false ∧
      ((s.clock.state = .freeRun ∧ s.clock.refUse = true) ∨ s.clock.state = .holdover ∨
        ((s.clock.state = .locking ∨ s.clock.state = .locked) ∧ s.clock.crashEligible = true)) := by
    have clock : t.clock = s.clock := rfl
    rw [arrivalTaken_iff, beginArrival_crashEligible, clock]
    cases state : s.clock.state <;> simp [and_comm]
  unfold mayCut
  rw [Bool.and_eq_true, Bool.and_eq_true, Pin.edgeDue_iff, Bool.not_eq_true', closed, possible, spell]
  simp only [and_assoc]

/-- Settles O25: a crash lock comes down to `crashLocked`, the step of a port to `Port.stepped`, and `mayCut` to its
conditions. -/
theorem crashLockCutsTheFrame : Obligations.CrashLockCutsTheFrame := by
  unfold Obligations.CrashLockCutsTheFrame
  refine ⟨?cuts, fun i s => ?step, fun s settled => mayCut_iff settled⟩
  case cuts =>
    intro w level s u0 u v error crash third low crashU crashV tune
    have row : exec (.hrefArrival w level) s = .next (takeIfDue .hrefEdge u0) := rfl
    clear_value u0
    have taken : (u0.setPins u0.pins.takeHref).closeClock = u := by
      have pins : u0.pins.takeHref = { u0.pins with href := { u0.pins.href with level := true, samples := 0 } } := by
        simp [Pins.takeHref, Pin.taken, low]
      rw [pins]
      rfl
    have scanned : u.endScan = v := rfl
    clear_value u v
    have cutU : u.cutsFrame := crashU
    have cutV : v.cutsFrame := crashV
    have lands : exec (.hrefArrival w level) s = .next v.crashLocked := by
      rw [row, takeIfDue_hrefEdge third, hrefEdge_cut low (by rw [taken]; exact (cutsFrame_crashes cutU).1), taken, scanned,
        arrival_cuts cutV tune]
    refine ⟨v.crashLocked, lands, crashLocked_clock v, fun ready room => ?queue, fun i => ?ports, fun o => ?outputs,
      crashLocked_inputs v, ?_, ?_, ?_, ?_, ?_, ?_, ?_, fun sound => (crashLocked_words sound).2⟩
    case queue =>
      obtain ⟨rest, grown⟩ := crashLocked_queue (s := v) ready
      rw [cutByArrival_queue ready room] at grown
      exact ⟨rest, grown⟩
    case ports =>
      rw [crashLocked_ports]
      refine ⟨fun x active none => stepped_active _ active none, fun active none => stepped_idle _ active none,
        fun x setting => stepped_setting _ setting, fun off => ?_⟩
      split
      · next active => exact stepped_off_idle _ active off
      · next active =>
        obtain ⟨y, active⟩ := Option.ne_none_iff_exists'.mp active
        exact stepped_off_active _ active off
    case outputs =>
      have placed := crashLocked_outputs v o
      simp only [Output.placed, Prod.mk.injEq] at placed
      obtain ⟨settings, anchor, wordFrame, pending⟩ := placed
      refine ⟨anchor, wordFrame, pending, settings.trans ?_⟩
      cases v.outputs[o].pending <;> rfl
    all_goals rw [crashLocked_frame]
  case step =>
    intro anchored applies
    refine ⟨fun x setting => ?_, fun y active off => ?_, fun active off => ?_⟩
    · exact stepPort_applies (by rw [setting]; simp) (stepped_setting s.frame setting) rfl
    · exact stepPort_turnsOff (by rw [off]; simp) (stepped_off_active s.frame active off) rfl
    · exact stepPort_turnsOff (by rw [off]; simp) (stepped_off_idle s.frame active off) active

end Sys2Proof.Machine
end

section
/-! SUPPORT. What every command keeps: it answers a next state, in which each property of `KeptAdd` still holds, and so do
the three invariants and the queue after a step. -/

namespace Sys2Proof.Machine

open State

/-! ## Every command -/

/-- Every command answers a next state, and keeps what is closed under the shared operations: an order's own row by the
taking of its order, every other row by the one operation it is. -/
theorem KeptAdd.exec {P : State → Prop} (K : KeptAdd P) (c : Instr) {s : State} (h : P s) :
    ∃ t, Machine.exec c s = .next t ∧ P t := by
  have due (e : Due) (w : Nat) : P (State.takeIfDue e (State.upTo w s)) := K.takeIfDue e (K.upTo w h)
  cases row : orderRow c with
  | some r =>
    obtain ⟨w, n, t, o⟩ := r
    exact ⟨_, exec_orderRow s row, K.takeOrder n t o (K.upTo w h)⟩
  | none =>
    refine match c, row with
    | .hardReset w event, _ => ⟨_, rfl, K.takeIfDue _ (K.takeIfDue _ (K.upTo w (K.driveReset event h)))⟩
    | .softReset w, _ => ⟨_, rfl, K.writeReset _ (K.upTo w h)⟩
    | .initialisationEnd w, _ => ⟨_, rfl, due _ w⟩
    | .nudge w _, _ => ⟨_, rfl, K.writeNudge (K.upTo w h)⟩
    | .attnClearUrgent w, _ => ⟨_, rfl, K.clearReasons _ _ (K.upTo w h)⟩
    | .attnClearClock w, _ => ⟨_, rfl, K.clearReasons _ _ (K.upTo w h)⟩
    | .registerWrite w _ _, _ => ⟨_, rfl, K.hostWrite _ _ (K.upTo w h)⟩
    | .readCountWrite w _, _ => ⟨_, rfl, K.writeReadCount _ (K.upTo w h)⟩
    | .noticeLevelWrite w _, _ => ⟨_, rfl, K.writeStore _ _ (K.upTo w h)⟩
    | .attentionMaskWrite w _, _ => ⟨_, rfl, K.writeStore _ _ (K.upTo w h)⟩
    | .frameBoundary w, _ => ⟨_, rfl, K.frameBoundary (K.upTo w h)⟩
    | .hrefMissing w, _ => ⟨_, rfl, K.takeIfDue _ (K.after w h)⟩
    | .holdoverExpiry w, _ => ⟨_, rfl, K.takeIfDue _ (K.after w h)⟩
    | .hrefArrival w _, _ => ⟨_, rfl, K.takeIfDue _ (K.upTo w (K.setPins _ h))⟩
    | .portSettingApply w _, _ => ⟨_, rfl, due _ w⟩
    | .unitEvent w _, _ => ⟨_, rfl, due _ w⟩
    | .portPulseEnd w _, _ => ⟨_, rfl, due _ w⟩
    | .tallyPulseEnd w _, _ => ⟨_, rfl, K.takeIfDue _ (K.after w h)⟩
    | .wordBoundary w _, _ => ⟨_, rfl, due _ w⟩
    | .timeWordArrival w _, _ => ⟨_, rfl, due _ w⟩
    | .lineQuiet w _, _ => ⟨_, rfl, due _ w⟩
    | .silence w _, _ => ⟨_, rfl, K.takeIfDue _ (K.after w h)⟩
    | .verifyExpiry w _, _ => ⟨_, rfl, due _ w⟩
    | .markEdge w _ _ lead, _ => ⟨_, rfl, K.takeIfDue _ (K.upTo w (K.setPins _ (K.after lead h)))⟩
    | .latchReArm w _, _ => ⟨_, rfl, due _ w⟩
    | .idleTimerExpiry w, _ => ⟨_, rfl, due _ w⟩
    | .scan w looks, _ => ⟨_, rfl, K.scanLooks looks (K.upTo w h)⟩
    | .scheduleFiring w _, _ => ⟨_, rfl, due _ w⟩
    | .reportWrite w, _ => ⟨_, rfl, K.reportWrite (K.upTo w h)⟩
    | .completionWrite w, _ => ⟨_, rfl, K.completionWrite (K.upTo w h)⟩
    | .twiLevelChange w _ _, _ => ⟨_, rfl, K.takeIfDue _ (K.upTo w (K.setPins _ h))⟩
    | .cellStart w _, _ => ⟨_, rfl, due _ w⟩

/-- Settles O2: an untouched queue is one of the properties that every command keeps. -/
theorem everyCommandAnswersNextAndKeepsTheQueue : Obligations.EveryCommandAnswersNextAndKeepsTheQueue :=
  fun c s => (keptAdd_pending s.pending).exec c rfl

/-! ## Every step -/

theorem step_front {c : Instr} {rest : List Instr} {s : State} (h : s.pending = c :: rest) :
    step s = exec c { s with pending := rest } := by
  simp [step, h]

theorem step_idle {s : State} (h : s.pending = []) : step s = .next s.idle := by simp [step, h]

/-- Settles O1, by the step's match on the queue. -/
theorem stepTakesTheFrontCommand : Obligations.StepTakesTheFrontCommand := fun _ _ _ => step_front

/-- An invariant that no command reads the queue for is kept by every step: the front command keeps it, and so does the part
with no command waiting. -/
theorem KeptAdd.step {P : State → Prop} (K : KeptAdd P) (queue : ∀ s q, P s → P { s with pending := q }) {s t : State}
    (h : P s) (next : Machine.step s = .next t) : P t := by
  cases pending : s.pending with
  | nil =>
    rw [step_idle pending] at next
    cases next
    exact K.idle h
  | cons c rest =>
    obtain ⟨u, answer, kept⟩ := K.exec c (queue s rest h)
    rw [step_front pending, answer] at next
    cases next
    exact kept

/-- Settles O3: the store's canonical form is kept by every step. -/
theorem stepKeepsTheStoreCanonical : Obligations.StepKeepsTheStoreCanonical :=
  fun _ _ => keptAdd_storeSound.step fun _ _ h => h

/-- Settles O4: picture time within its frame is kept by every step. -/
theorem stepKeepsPictureTimeWithinItsFrame : Obligations.StepKeepsPictureTimeWithinItsFrame :=
  fun _ _ => keptAdd_pictureSound.step fun _ _ h => h

/-- Settles O5: the Schedule's bounds are kept by every step. -/
theorem stepKeepsTheScheduleWithinItsBounds : Obligations.StepKeepsTheScheduleWithinItsBounds :=
  fun _ _ => keptAdd_scheduleSound.step fun _ _ h => h

/-- Settles O6: the store is empty, the clock at its reset values and the Schedule empty. -/
theorem resetIsSound : Obligations.ResetIsSound :=
  ⟨Memory.wf_nil, Clock.sound_reset, by simp [scheduleSound, State.reset]⟩

end Sys2Proof.Machine
end

section
/-! SUPPORT. The host bus (09): the handing of reports and completions, scan requests, host writes by address, the read count
and the LOG_GAP it may bring, and the reasons of ATTN (R161 to R178). -/

namespace Sys2Proof.Machine

open State

/-! ## The Report Writer's door (R174, R176, R177) -/

theorem handCompletion_accepted {s : State} {c : Completion} (h : s.bus.ready = true) :
    s.handCompletion c = { s with writer := { s.writer with
      queue := s.writer.queue ++ [.completion { c with fence := s.writer.accepted }] } } := by
  simp [handCompletion, acceptCompletion, h, setWriter]

theorem handCompletion_kept {s : State} {c : Completion} (h : s.bus.ready = false) :
    s.handCompletion c = { s with writer := { s.writer with kept := s.writer.kept ++ [.completion c] } } := by
  simp [handCompletion, h, setWriter]

/-- Settles O20: the door's cases, by READY and by how many reports wait. -/
theorem handingToTheReportWriter : Obligations.HandingToTheReportWriter := fun _ _ _ =>
  ⟨handReport_accepted, handReport_dropped, handReport_kept, handReport_lost, handCompletion_accepted, handCompletion_kept⟩

/-! ## Scan requests (R170) -/

theorem scanRequest_starts {s : State} (ready : s.bus.ready = true) (idle : s.scanner.point = none) :
    s.scanRequest = { s with scanner := { s.scanner with point := some 0 } } := by
  simp [scanRequest, ready, idle, setScanner]

theorem scanRequest_waits {s : State} (scanning : s.scanner.point ≠ none) :
    s.scanRequest = { s with scanner := { s.scanner with requested := true } } := by
  simp [scanRequest, scanning, setScanner]

theorem idleDue_iff {s : State} (ready : s.bus.ready = true) :
    s.idleDue = true ↔ s.clock.state = .stopped ∧ 2 ^ 20 ≤ s.scanner.idle := by
  simp [idleDue, ready, running]

/-- With READY 0 the idle timer does not expire. -/
theorem idleDue_closed {s : State} (closed : s.bus.ready = false) : s.idleDue = false := by simp [idleDue, closed]

theorem writeNudge_ready {s : State} (ready : s.bus.ready = true) : s.writeNudge = s.scanRequest := by
  simp [writeNudge, ready]

theorem writeNudge_closed {s : State} (closed : s.bus.ready = false) : s.writeNudge = s := by simp [writeNudge, closed]

/-- Settles O11: a nudge and the idle timer's expiry come down to a scan request, which starts a scan or waits for its end. -/
theorem scanRequests : Obligations.ScanRequests := by
  intro w x s u
  have nudge : exec (.nudge w x) s = .next u.writeNudge := rfl
  have timer : exec (.idleTimerExpiry w) s = .next (takeIfDue .idleTimer u) := rfl
  clear_value u
  have expires (ready : u.bus.ready = true) (stopped : u.clock.state = .stopped) (long : 2 ^ 20 ≤ u.scanner.idle) :
      exec (.idleTimerExpiry w) s = .next u.idleExpiry :=
    timer.trans (congrArg _ (takeIfDue_due (e := .idleTimer) ((idleDue_iff ready).mpr ⟨stopped, long⟩)))
  refine ⟨fun closed => ?_, fun ready idle => ?_, fun ready scanning => ?_, fun ready stopped long idle => ?_,
    fun ready stopped long scanning => ?_, fun early => ?_⟩
  · rw [nudge, writeNudge_closed closed]
  · rw [nudge, writeNudge_ready ready, scanRequest_starts ready idle]
  · rw [nudge, writeNudge_ready ready, scanRequest_waits scanning]
  · rw [expires ready stopped long]
    exact congrArg _ (scanRequest_starts (s := u.setScanner { u.scanner with idle := 0 }) ready idle)
  · rw [expires ready stopped long]
    exact congrArg _ (scanRequest_waits (s := u.setScanner { u.scanner with idle := 0 }) scanning)
  · rw [timer, takeIfDue_not_due (e := .idleTimer)]
    cases ready : u.bus.ready with
    | false => exact idleDue_closed ready
    | true =>
      refine Bool.eq_false_iff.mpr fun due => ?_
      obtain ⟨stopped, long⟩ := (idleDue_iff ready).mp due
      exact early.elim (fun running => running stopped) fun short => absurd long (Nat.not_le.mpr short)

/-! ## Host writes by address (R161, R163, R165) -/

theorem clearReasons_ready {s : State} (ready : s.bus.ready = true) (urgent clock : Bool) :
    clearReasons urgent clock s = { s with writer := { s.writer with
      urgent := s.writer.urgent && !urgent, clock := s.writer.clock && !clock } } := by
  simp [clearReasons, ready, setWriter]

theorem clearReasons_closed {s : State} (closed : s.bus.ready = false) (urgent clock : Bool) :
    clearReasons urgent clock s = s := by
  simp [clearReasons, closed]

theorem writeStore_ready {s : State} (ready : s.bus.ready = true) (a : Nat) (v : Word) : writeStore a v s = s.putWord a v := by
  simp [writeStore, ready]

theorem writeReset_other {s : State} {v : Word} (other : v ≠ 1) : writeReset v s = s :=
  if_neg fun h => other h.2

theorem hostWrite_store {a : Word} (low : a.toNat < 0x8000) (other : a ≠ 0x0010) (v : Word) (s : State) :
    hostWrite a v s = writeStore a.toNat v s := by
  have apart : a.toNat ≠ 0x0010 := fun e => other (BitVec.eq_of_toNat_eq e)
  simp [hostWrite, Address.readCount, Address.storeEnd, apart, low]

theorem hostWrite_above {a : Word} (high : 0x8003 < a.toNat) (v : Word) (s : State) : hostWrite a v s = s := by
  have apart {n : Nat} (hn : n ≤ 0x8003) : a.toNat ≠ n := by omega
  have beyond : ¬ a.toNat < 0x8000 := by omega
  simp [hostWrite, Address.readCount, Address.storeEnd, Address.attn, Address.nudge, Address.reset, apart, beyond]

/-- No host write is taken while READY is 0 (R164). -/
theorem hostWrite_closed {s : State} (closed : s.bus.ready = false) (a v : Word) : hostWrite a v s = s := by
  simp [hostWrite, writeReadCount, writeStore, clearReasons, writeNudge, writeReset, closed]

/-- Settles O12: each address has its row of `hostWrite`, and the two clearing rows clear one reason each. -/
theorem hostWritesByAddress : Obligations.HostWritesByAddress := by
  intro w a x s u
  have write : exec (.registerWrite w a x) s = .next (hostWrite a x u) := rfl
  have urgent : exec (.attnClearUrgent w) s = .next (clearReasons true false u) := rfl
  have clock : exec (.attnClearClock w) s = .next (clearReasons false true u) := rfl
  have count : exec (.readCountWrite w x) s = .next (writeReadCount x u) := rfl
  have nudge : exec (.nudge w x) s = .next u.writeNudge := rfl
  have reset : exec (.softReset w) s = .next (writeReset 1 u) := rfl
  clear_value u
  refine ⟨fun closed => ?_, fun ready => ⟨fun low other => ?_, fun h => ?_, fun h => ?_, fun h => ?_, fun h => ?_,
    fun h one => ?_, fun h other => ?_, fun high => ?_, ?_, ?_⟩⟩
  · rw [write, urgent, clock, hostWrite_closed closed, clearReasons_closed closed, clearReasons_closed closed]
    exact ⟨rfl, rfl, rfl⟩
  · rw [write, hostWrite_store low other, writeStore_ready ready]
  · rw [write, h, count]
    rfl
  · rw [write, h]
    rfl
  · rw [write, h, ← clearReasons_ready ready]
    rfl
  · rw [write, h, nudge]
    rfl
  · rw [write, h, one, reset]
    rfl
  · rw [write, h]
    exact congrArg _ (writeReset_other other)
  · rw [write, hostWrite_above high]
  · rw [urgent, clearReasons_ready ready]
    simp
  · rw [clock, clearReasons_ready ready]
    simp

/-! ## The read count (R163, R176, R178) -/

/-- R175: a record is laid in the next place of the log, and the written count follows it. -/
theorem writeRecord_eq (r : Report) (s : State) : writeRecord r s = { s with
    store := (s.store.putWords (0x0900 + 16 * (s.writer.written.toNat % 1024)) (reportWords s.writer.sequence r)).putWord
      0x0003 (s.writer.written + 1)
    writer := { s.writer with sequence := s.writer.sequence + 1, written := s.writer.written + 1
                              urgent := s.writer.urgent || r.urgent } } := by
  simp only [writeRecord, setWriter, putWords, putWord, Address.record, Address.writtenCount]

theorem writeGap_not {s : State} (h : ¬ (0 < s.writer.gap ∧ s.logRoom = true)) : s.writeGap = s := by
  simp only [writeGap, if_neg h]

theorem logRoom_iff (s : State) : s.logRoom = true ↔ (s.writer.written - s.word 0x0010).toNat < 1024 := decide_eq_true_iff

/-- The record LOG_GAP: in the next place of the log, urgent, with the gap count and the dropped total. -/
theorem writeGap_written {s : State} (gap : 0 < s.writer.gap) (room : s.logRoom = true) :
    s.writeGap = { s with
      store := (s.store.putWords (0x0900 + 16 * (s.writer.written.toNat % 1024)) (reportWords s.writer.sequence
        { position := s.here, urgent := true, body := .logGap s.writer.gap s.writer.dropped })).putWord 0x0003
          (s.writer.written + 1)
      writer := { s.writer with sequence := s.writer.sequence + 1, written := s.writer.written + 1, urgent := true
                                gap := 0 } } := by
  simp [writeGap, gap, room, writeRecord_eq, setWriter]

theorem readCount_logRoom {s : State} (sound : s.storeSound) (x : Word) :
    (s.putWord 0x0010 x).logRoom = true ↔ (s.writer.written - x).toNat < 1024 := by
  have read : (s.putWord 0x0010 x).word 0x0010 = x := by
    rw [State.word, putWord_store, Memory.word_putWord _ _ _ sound, if_pos rfl]
  rw [logRoom_iff, read]
  rfl

theorem writeReadCount_room {s : State} (ready : s.bus.ready = true) (room : s.logRoom = true) (x : Word) :
    writeReadCount x s = s.putWord 0x0010 x := by
  simp [writeReadCount, ready, room, Address.readCount]

theorem writeReadCount_full {s : State} (ready : s.bus.ready = true) (full : ¬ s.logRoom = true) (x : Word) :
    writeReadCount x s = (s.putWord 0x0010 x).writeGap := by
  simp [writeReadCount, ready, full, Address.readCount]

/-- Settles O13: a read count judges the log's room again, and brings the LOG_GAP that is owed where it makes room. -/
theorem headerWrites : Obligations.HeaderWrites := by
  intro w x s u before after ready
  have level : exec (.noticeLevelWrite w x) s = .next (writeStore 0x0011 x u) := rfl
  have mask : exec (.attentionMaskWrite w x) s = .next (writeStore 0x0012 x u) := rfl
  have count : exec (.readCountWrite w x) s = .next (writeReadCount x u) := rfl
  clear_value u
  rw [level, mask, count, writeStore_ready ready, writeStore_ready ready]
  refine ⟨rfl, rfl, fun sound => ⟨fun h => congrArg _ ?_, fun gap full room => congrArg _ ?_⟩⟩
  · by_cases room : u.logRoom = true
    · exact writeReadCount_room ready room x
    · rw [writeReadCount_full ready room, writeGap_not]
      rintro ⟨gap, made⟩
      rw [readCount_logRoom sound] at made
      rw [logRoom_iff] at room
      rcases h with none | before_room | after_full
      · exact absurd gap (by rw [putWord_writer, none]; exact lt_irrefl 0)
      · exact room before_room
      · exact absurd made (Nat.not_lt.mpr after_full)
  · have no_room : ¬ u.logRoom = true := by rw [logRoom_iff]; exact Nat.not_lt.mpr full
    rw [writeReadCount_full ready no_room, writeGap_written (s := u.putWord 0x0010 x) gap ((readCount_logRoom sound x).mpr room)]
    rfl

/-! ## The reasons of ATTN (R167, R168) -/

/-- The bits of a word made of four flags. -/
theorem getLsbD_four_flags (b0 b1 b2 b3 : Bool) :
    let x := BitVec.ofBool b3 ++ BitVec.ofBool b2 ++ BitVec.ofBool b1 ++ BitVec.ofBool b0
    x.getLsbD 0 = b0 ∧ x.getLsbD 1 = b1 ∧ x.getLsbD 2 = b2 ∧ x.getLsbD 3 = b3 := by
  revert b0 b1 b2 b3
  decide

theorem and_ne_zero_iff {n : Nat} (x y : BitVec n) :
    x &&& y ≠ 0 ↔ ∃ i, i < n ∧ x.getLsbD i = true ∧ y.getLsbD i = true := by
  constructor
  · intro h
    by_contra none
    refine h (BitVec.eq_of_getLsbD_eq fun i hi => ?_)
    have := fun both => none ⟨i, hi, both⟩
    simpa using this
  · rintro ⟨i, _, hx, hy⟩ zero
    have bit := congrArg (BitVec.getLsbD · i) zero
    simp [hx, hy] at bit

theorem noticeLevel_eq (s : State) :
    s.noticeLevel = if (s.word 0x0011).toNat = 0 then 1 else min (s.word 0x0011).toNat 1024 := rfl

theorem noticeLevel_le (s : State) : s.noticeLevel ≤ 1024 := by
  rw [noticeLevel_eq]
  split <;> omega

theorem intAsserted_iff {s : State} (ready : s.bus.ready = true) : s.intAsserted = true ↔
    ∃ i, i < 4 ∧ s.attn.getLsbD i = true ∧ (s.word 0x0012).getLsbD i = true := by
  have mask {i : Nat} (hi : i < 4) : s.attentionMask.getLsbD i = (s.word 0x0012).getLsbD i := by
    simp [attentionMask, Address.attentionMask, hi]
  simp only [intAsserted, ready, Bool.true_and, decide_eq_true_eq, and_ne_zero_iff]
  exact exists_congr fun i => and_congr_right fun hi => by rw [mask hi]

/-- Settles O14: the four bits of ATTN are its reasons, and INT# is asserted where the mask meets one. -/
theorem attnAndInt : Obligations.AttnAndInt := by
  intro s ready unread level
  obtain ⟨b0, b1, b2, b3⟩ := getLsbD_four_flags s.attnReports s.writer.urgent s.attnCountFault s.writer.clock
  have reports : s.attn.getLsbD 0 = decide (level ≤ unread) := b0.trans (by rw [attnReports, ready]; rfl)
  have fault : s.attn.getLsbD 2 = decide (1024 < unread) := b2.trans (by rw [attnCountFault, ready]; rfl)
  refine ⟨reports, b1, fault, b3, intAsserted_iff ready, fun beyond => ?_, ?_, ?_⟩
  · rw [reports]
    exact decide_eq_true ((noticeLevel_le s).trans beyond.le)
  · simp [hostRead, ready, Address.storeEnd, Address.ident]
  · simp [hostRead, ready, Address.storeEnd, Address.ident, Address.attn]

/-! ## The rows of events (entries 2 and 4) -/

/-- The row of an event is the event when it is due: one of a frame boundary's own before the boundary's tally pulses end, any
other after. -/
theorem exec_eventRow {c : Instr} {w : Nat} {e : Due} (s : State) (h : eventRow c = some (w, e)) :
    exec c s = .next (takeIfDue e (if e ∈ boundaryEvents then s.after w else s.upTo w)) := by
  cases c <;> simp only [eventRow, Option.some.injEq, Prod.mk.injEq, reduceCtorEq] at h <;>
    obtain ⟨rfl, rfl⟩ := h <;> simp [boundaryEvents, pulseEvents] <;> rfl

/-- Settles O15: an order's row is `takeOrder`, and an event's row is `takeIfDue`. -/
theorem rowsRunTheirOrderOrEvent : Obligations.RowsRunTheirOrderOrEvent := by
  refine ⟨fun c w n t o s row => ⟨fun ready => ?_, fun closed => ?_⟩, fun c w e s row => ?_⟩
  · rw [exec_orderRow s row, takeOrder_ready ready]
  · rw [exec_orderRow s row, takeOrder_closed closed]
  · intro u
    rw [exec_eventRow s row]
    exact ⟨fun due => congrArg _ (takeIfDue_due due), fun early => congrArg _ (takeIfDue_not_due early)⟩

end Sys2Proof.Machine
end

section
/-! SUPPORT. Orders in slots (10.3, R169, R172): every order reads back from its words, what the words of the store read after
words are written, and the state in which a slot has been filed and taken. -/

namespace Sys2Proof.Machine

open State

/-! ## Orders and their words (10.3, 10.6, R182) -/

/-- A two-word number reads back from its halves. -/
@[simp] theorem wide_lo16_hi16 (x : BitVec 32) : wide (lo16 x) (hi16 x) = x := by
  refine BitVec.eq_of_getLsbD_eq fun i hi => ?_
  rw [wide, BitVec.getLsbD_append, lo16, hi16, BitVec.getLsbD_extractLsb', BitVec.getLsbD_extractLsb']
  by_cases low : i < 16
  · simp [low]
  · simp [low, show i - 16 < 16 by omega, show 16 + (i - 16) = i by omega]

theorem orderArgs_length_le (o : Order) : (orderArgs o).length ≤ 16 := by cases o <;> simp [orderArgs]

theorem argWords_length (o : Order) : (argWords o).length = 16 := by
  have := orderArgs_length_le o
  rw [argWords, List.length_append, List.length_replicate]
  omega

theorem orderWords_length (t : Timing) (o : Order) : (orderWords t o).length = 23 := by
  rw [orderWords, List.length_append, argWords_length]
  rfl

/-- The argument words stand from word 8 of the slot, the eighth of the words after its state word. -/
theorem orderWords_arg (t : Timing) (o : Order) {k : Nat} (hk : 8 ≤ k) :
    (orderWords t o)[k - 1]! = (argWords o)[k - 8]! := by
  obtain ⟨j, rfl⟩ := Nat.exists_eq_add_of_le hk
  rw [orderWords, show 8 + j - 1 = 7 + j by omega, show 8 + j - 8 = j by omega]
  simp only [List.getElem!_eq_getElem?_getD]
  rw [List.getElem?_append_right (by simp)]
  simp

/-- An order's words of a slot are its arguments: no other word is read. -/
theorem readOrder_congr {kind : Word} {w w' : Nat → Word} (h : ∀ k, 8 ≤ k → k < 24 → w k = w' k) :
    readOrder kind w = readOrder kind w' := by
  have words : (Vector.ofFn fun i : Fin 16 => w (8 + i.val)) = Vector.ofFn fun i : Fin 16 => w' (8 + i.val) :=
    congrArg Vector.ofFn (funext fun i => h _ (by omega) (by omega))
  unfold readOrder
  split <;> simp [h, words]

theorem readOrder_argWords (o : Order) : readOrder (orderKind o) (fun k => (argWords o)[k - 8]!) = some o := by
  cases o with
  | userTable e =>
    have entries : (Vector.ofFn fun i : Fin 16 => (argWords (.userTable e))[8 + i.val - 8]!) = e := by
      ext i hi
      simp [argWords, orderArgs]
    exact congrArg (fun e => some (Order.userTable e)) entries
  | _ => simp [readOrder, orderKind, argWords, orderArgs]

/-- An order reads back from any words that agree with those that hold it. -/
theorem readOrder_of_words {o : Order} {t : Timing} {w : Nat → Word}
    (h : ∀ k, 1 ≤ k → k < 24 → w k = (orderWords t o)[k - 1]!) : readOrder (w 1) w = some o := by
  have kind : w 1 = orderKind o := h 1 le_rfl (by decide)
  rw [kind, ← readOrder_argWords o]
  exact readOrder_congr fun k low high => (h k (by omega) high).trans (orderWords_arg t o low)

/-- Settles O16: kind, check and timing words stand in their places, and the argument words read back as the order. -/
theorem ordersReadBackFromTheirWords : Obligations.OrdersReadBackFromTheirWords := by
  intro o t words
  exact ⟨orderWords_length t o, rfl, rfl, rfl, wide_lo16_hi16 t.due, rfl, rfl,
    readOrder_of_words (w := fun k => words[k - 1]!) fun _ _ _ => rfl⟩

/-! ## Words of the store (R161) -/

theorem word_putWord {s : State} (sound : s.storeSound) (a : Nat) (w : Word) (b : Nat) :
    (s.putWord a w).word b = if b = a then w else s.word b :=
  Memory.word_putWord a w b sound

theorem word_putWords_at {s : State} (sound : s.storeSound) {a k : Nat} {ws : List Word} (hk : k < ws.length) :
    (s.putWords a ws).word (a + k) = ws[k]! := by
  rw [State.word, putWords_store, Memory.word_putWords _ _ _ sound, dif_pos (by omega), getElem!_pos ws k hk]
  simp only [Nat.add_sub_cancel_left]

theorem word_putWords_other {s : State} (sound : s.storeSound) {a b : Nat} {ws : List Word}
    (h : b < a ∨ a + ws.length ≤ b) : (s.putWords a ws).word b = s.word b := by
  rw [State.word, putWords_store, Memory.word_putWords _ _ _ sound, dif_neg (by omega)]
  rfl

theorem slotWord_eq (s : State) (n : SlotId) (k : Nat) : s.slotWord n k = s.word (0x0100 + 32 * n.val + k) := rfl

theorem slotWord_putSlotState {s : State} (sound : s.storeSound) (n : SlotId) (w : Word) (k : Nat) :
    (s.putSlotState n w).slotWord n k = if k = 0 then w else s.slotWord n k := by
  rw [slotWord_eq, putSlotState, word_putWord sound]
  by_cases zero : k = 0
  · rw [if_pos zero, if_pos (by rw [zero]; rfl)]
  · rw [if_neg zero, if_neg (by simp [Address.slot, zero])]
    rfl

theorem word_putSlotState_other {s : State} (sound : s.storeSound) {n : SlotId} {w : Word} {a : Nat}
    (h : a ≠ 0x0100 + 32 * n.val) : (s.putSlotState n w).word a = s.word a :=
  (word_putWord sound _ w a).trans (if_neg h)

/-! ## A slot filed and taken (R169, R172) -/

theorem fileOrder_sound {u : State} (sound : u.storeSound) (n : SlotId) (t : Timing) (o : Order) :
    (fileOrder n t o u).storeSound := keptAdd_storeSound.fileOrder n t o sound

theorem fileOrder_words_sound {u : State} (sound : u.storeSound) (n : SlotId) (t : Timing) (o : Order) :
    (u.putWords (Address.slot n + 1) (orderWords t o)).storeSound := kept_storeSound.putWords _ _ sound

/-- A filed slot reads FILED and holds its order. -/
theorem slotWord_fileOrder {u : State} (sound : u.storeSound) (n : SlotId) (t : Timing) (o : Order) {k : Nat} (hk : k < 24) :
    (fileOrder n t o u).slotWord n k = if k = 0 then 1 else (orderWords t o)[k - 1]! := by
  rw [fileOrder, slotWord_putSlotState (fileOrder_words_sound sound n t o)]
  by_cases zero : k = 0
  · rw [if_pos zero, if_pos zero]
    rfl
  · rw [if_neg zero, if_neg zero, slotWord_eq, show 0x0100 + 32 * n.val + k = Address.slot n + 1 + (k - 1) by
      simp only [Address.slot]; omega]
    exact word_putWords_at sound (by rw [orderWords_length]; omega)

theorem word_fileOrder_other {u : State} (sound : u.storeSound) {n : SlotId} (t : Timing) (o : Order) {a : Nat}
    (h : a < 0x0100 + 32 * n.val ∨ 0x0100 + 32 * n.val + 24 ≤ a) : (fileOrder n t o u).word a = u.word a := by
  rw [fileOrder, word_putSlotState_other (fileOrder_words_sound sound n t o) (by omega)]
  exact word_putWords_other sound (by rw [orderWords_length, Address.slot]; omega)

/-- Where a slot holds no entry, taking it discards what is owed to it. -/
theorem retake_no_entry {n : SlotId} {s : State} (h : s.entryOf n = none) : retake n s = discardOwed n s := by
  simp only [retake, h]

theorem retake_entry {n : SlotId} {s : State} {e : Entry} (h : s.entryOf n = some e) :
    retake n s = discardOwed n (loseEntry e .retaken s) := by
  simp only [retake, h]

theorem entryOf_slot {n : SlotId} {s : State} {e : Entry} (h : s.entryOf n = some e) : e.slot = n := by
  simpa using List.find?_some h

/-- Taking a slot writes of the store at most the dropped total, before the state word. -/
theorem onlyMirrorWritten_retake {s : State} (sound : s.storeSound) (n : SlotId) : OnlyMirrorWritten s (retake n s) := by
  have same : OnlyMirrorWritten s s := ⟨sound, fun _ _ => rfl⟩
  cases entry : s.entryOf n with
  | none => rw [retake_no_entry entry]; exact same
  | some e =>
    rw [retake_entry entry]
    exact onlyMirrorWritten_handReport (s := s) (t := removeEntry e.slot s) _ same

theorem slotWord_retake {s : State} (sound : s.storeSound) (n m : SlotId) (k : Nat) :
    (retake n s).slotWord m k = s.slotWord m k :=
  (onlyMirrorWritten_retake sound n).2 _ (.inr (by simp only [Address.slot]; omega))

/-- A slot filed and taken reads TAKEN and holds its order. -/
theorem slotWord_orderTaken {u : State} (sound : u.storeSound) (n : SlotId) (t : Timing) (o : Order) {k : Nat} (hk : k < 24) :
    (orderTaken n t o u).slotWord n k = if k = 0 then 2 else (orderWords t o)[k - 1]! := by
  have filed := fileOrder_sound sound n t o
  rw [orderTaken, beginTake, slotWord_putSlotState (onlyMirrorWritten_retake filed n).1, slotWord_retake filed,
    slotWord_fileOrder sound n t o hk]
  by_cases zero : k = 0
  · rw [if_pos zero, if_pos zero]
    rfl
  · rw [if_neg zero, if_neg zero, if_neg zero]

/-- R152: the urgent SLOT_LOST of a held slot filed afresh carries what the slot then holds. -/
theorem loseEntry_filed {u : State} (sound : u.storeSound) {n : SlotId} (t : Timing) (o : Order) {e : Entry}
    (h : e.slot = n) :
    loseEntry e .retaken (fileOrder n t o u) = (removeEntry n (fileOrder n t o u)).handReport
      { position := u.here, urgent := true
        body := .slotLost n .retaken e.kind 1 (orderKind o) (~~~ orderKind o) e.due
          ((e.again.map fun r => r.fired).getD 0) ((e.again.map fun r => r.missed).getD 0) } := by
  have word {k : Nat} (hk : k < 24) := slotWord_fileOrder sound n t o hk
  unfold loseEntry
  rw [h, word (k := 0) (by decide), word (k := 1) (by decide), word (k := 2) (by decide)]
  rfl

/-- Settles O17: the slot's words after it is filed and taken, and what taking it does to the rest of the part. -/
theorem takenSlotHoldsItsOrder : Obligations.TakenSlotHoldsItsOrder := by
  intro n t o u sound v
  have word {k : Nat} (hk : k < 24) : v.slotWord n k = if k = 0 then 2 else (orderWords t o)[k - 1]! :=
    slotWord_orderTaken sound n t o hk
  have later {k : Nat} (low : 1 ≤ k) (high : k < 24) : v.slotWord n k = (orderWords t o)[k - 1]! :=
    (word high).trans (if_neg (by omega))
  have timing : v.slotTiming n = t := by
    rw [slotTiming, later (k := 3) (by decide) (by decide), later (k := 4) (by decide) (by decide),
      later (k := 5) (by decide) (by decide), later (k := 6) (by decide) (by decide),
      later (k := 7) (by decide) (by decide)]
    simp [orderWords]
  refine ⟨word (k := 0) (by decide), later (k := 1) (by decide) (by decide), later (k := 2) (by decide) (by decide), timing,
    readOrder_of_words fun k low high => later low high, fun none => ?_, fun e held => ?_⟩
  · have taken : v = (discardOwed n (fileOrder n t o u)).putSlotState n SlotState.taken :=
      congrArg (putSlotState · n SlotState.taken) (retake_no_entry (s := fileOrder n t o u) none)
    refine ⟨taken ▸ rfl, fun a outside => ?_⟩
    rw [taken, word_putSlotState_other (s := discardOwed n (fileOrder n t o u)) (fileOrder_sound sound n t o) (by omega)]
    exact word_fileOrder_other sound t o outside
  · rw [← loseEntry_filed sound t o (entryOf_slot held)]
    exact congrArg (putSlotState · n SlotState.taken) (retake_entry (s := fileOrder n t o u) held)

end Sys2Proof.Machine
end

section
/-! SUPPORT. The Schedule and the scanner (08, 09 R169 to R173): which timings an order may carry, how a taken order is judged,
late REPEATs, CANCEL, the looks of a scan, and firings. -/

namespace Sys2Proof.Machine

open State

/-! ## Timings (R147) -/

theorem readWhen_atOnce {t : Timing} (h : t.timing = 0) (o : Order) : readWhen t o = some .atOnce := by
  simp [readWhen, h, allows]

theorem readWhen_timing_one {t : Timing} (h : t.timing = 1) (o : Order) :
    readWhen t o = if allows o .atFrame then some .atFrame else none := by
  simp [readWhen, h, Option.filter]

theorem readWhen_timing_two {t : Timing} (h : t.timing = 2) (o : Order) :
    readWhen t o = if allows o .again && !(t.interval == 0) then some .again else none := by
  simp [readWhen, h, Option.filter]

theorem readWhen_timing_above {t : Timing} (h : 2 < t.timing.toNat) (o : Order) : readWhen t o = none := by
  have apart {k : Word} (hk : k.toNat ≤ 2) : t.timing ≠ k := fun e => by rw [e] at h; omega
  simp only [readWhen, if_neg (apart (k := 0) (by decide)), if_neg (apart (k := 1) (by decide)),
    if_neg (apart (k := 2) (by decide)), Option.filter_none]

/-- A timing word is 0, 1, 2 or above. -/
theorem timing_cases (x : Word) : x = 0 ∨ x = 1 ∨ x = 2 ∨ 2 < x.toNat := by
  rcases Nat.lt_or_ge 2 x.toNat with above | within
  · exact .inr (.inr (.inr above))
  · have number : x = BitVec.ofNat 16 x.toNat := (BitVec.ofNat_toNat 16 x ▸ BitVec.setWidth_eq x).symm
    interval_cases x.toNat <;> simp [number]

theorem allows_atFrame_iff (o : Order) : allows o .atFrame = false ↔
    (∃ a, o = .clockStart a) ∨ (∃ m, o = .cancel m) ∨ (∃ a c, o = .queryClock a c) ∨ (∃ a, o = .queryDevice a) ∨
      (∃ a, o = .queryTake a) ∨ ∃ a, o = .queryMark a := by
  cases o <;> simp [allows]

theorem allows_again_iff (o : Order) : allows o .again = true ↔
    (∃ a, o = .tallySet a) ∨ (∃ a b, o = .jam a b) ∨ ∃ a b, o = .markInject a b := by
  cases o <;> simp [allows]

theorem readWhen_eq_none_iff (t : Timing) (o : Order) : readWhen t o = none ↔
    2 < t.timing.toNat ∨ (t.timing = 1 ∧ allows o .atFrame = false) ∨
      (t.timing = 2 ∧ (t.interval = 0 ∨ ¬ allows o .again = true)) := by
  rcases timing_cases t.timing with h | h | h | h
  · simp [readWhen_atOnce h, h]
  · simp [readWhen_timing_one h, h]
  · cases again : allows o .again <;> simp [readWhen_timing_two h, h, again]
  · simp [readWhen_timing_above h, h]

theorem readWhen_atFrame {t : Timing} {o : Order} (allowed : readWhen t o ≠ none) (h : t.timing = 1) :
    readWhen t o = some .atFrame := by
  rw [readWhen_timing_one h] at allowed ⊢
  exact if_pos (by_contra fun no => allowed (if_neg no))

theorem readWhen_again {t : Timing} {o : Order} (allowed : readWhen t o ≠ none) (h : t.timing = 2) :
    readWhen t o = some .again := by
  rw [readWhen_timing_two h] at allowed ⊢
  exact if_pos (by_contra fun no => allowed (if_neg no))

/-- An order that is neither refused for its timing nor carried out at once waits for a frame. -/
theorem readWhen_timed {t : Timing} {o : Order} (allowed : readWhen t o ≠ none) (h : t.timing ≠ 0) :
    (t.timing = 1 ∧ readWhen t o = some .atFrame) ∨ (t.timing = 2 ∧ readWhen t o = some .again) := by
  rcases timing_cases t.timing with k | k | k | k
  · exact absurd k h
  · exact .inl ⟨k, readWhen_atFrame allowed k⟩
  · exact .inr ⟨k, readWhen_again allowed k⟩
  · exact absurd (readWhen_timing_above k o) allowed

/-! ## Judging a taken order (R148, R151) -/

/-- R151: what the Schedule holds of an order whose due frame is ahead. -/
def heldEntry (n : SlotId) (t : Timing) (o : Order) : Entry :=
  { slot := n, kind := orderKind o, due := t.due, again := if t.timing = 2 then some (Repeating.fresh t) else none }

theorem judgeOrder_badArg {n : SlotId} {t : Timing} {o : Order} {s : State} (h : readWhen t o = none) :
    judgeOrder n t o s = completeSlot n .badArg Reply.zero none s := by
  simp only [judgeOrder, h]

theorem judgeOrder_stopped {n : SlotId} {t : Timing} {o : Order} {s : State} (allowed : readWhen t o ≠ none)
    (timed : t.timing ≠ 0) (stopped : s.running = false) :
    judgeOrder n t o s = completeSlot n .noClock Reply.zero none s := by
  rcases readWhen_timed allowed timed with ⟨_, h⟩ | ⟨_, h⟩ <;> simp [judgeOrder, h, stopped]

theorem judgeOrder_ahead {n : SlotId} {t : Timing} {o : Order} {s : State} (allowed : readWhen t o ≠ none)
    (timed : t.timing ≠ 0) (running : s.running = true) (ahead : frameDiff s.frame t.due < 0) :
    judgeOrder n t o s = holdOrder (heldEntry n t o) s := by
  rcases readWhen_timed allowed timed with ⟨k, h⟩ | ⟨k, h⟩ <;> simp [judgeOrder, h, running, ahead, heldEntry, k]

theorem judgeOrder_tooLate {n : SlotId} {t : Timing} {o : Order} {s : State} (allowed : readWhen t o ≠ none)
    (timed : t.timing ≠ 0) (running : s.running = true) (late : (s.lateGrace : Int) < frameDiff s.frame t.due) :
    judgeOrder n t o s = completeSlot n .tooLate Reply.zero none s := by
  have due : ¬ frameDiff s.frame t.due < 0 := by omega
  rcases readWhen_timed allowed timed with ⟨_, h⟩ | ⟨_, h⟩ <;> simp [judgeOrder, h, running, due, late]

theorem judgeOrder_atFrame_due {n : SlotId} {t : Timing} {o : Order} {s : State} (h : readWhen t o = some .atFrame)
    (running : s.running = true) (due : 0 ≤ frameDiff s.frame t.due) (grace : frameDiff s.frame t.due ≤ s.lateGrace) :
    judgeOrder n t o s =
      carryOut { slot := n, fired := false, again := false, late := decide (0 < frameDiff s.frame t.due) } o s := by
  simp [judgeOrder, h, running, not_lt.mpr due, not_lt.mpr grace]

theorem judgeOrder_again_due {n : SlotId} {t : Timing} {o : Order} {s : State} (h : readWhen t o = some .again)
    (running : s.running = true) (due : 0 ≤ frameDiff s.frame t.due) (grace : frameDiff s.frame t.due ≤ s.lateGrace) :
    judgeOrder n t o s = takeLateRepeat n t o (frameDiff s.frame t.due).toNat s := by
  simp [judgeOrder, h, running, not_lt.mpr due, not_lt.mpr grace]

theorem holdOrder_full {e : Entry} {s : State} (full : 32 ≤ s.schedule.length) :
    holdOrder e s = completeSlot e.slot .scheduleFull Reply.zero none s := if_pos full

theorem holdOrder_room {e : Entry} {s : State} (room : s.schedule.length < 32) :
    holdOrder e s = { s with
      store := s.store.putWord (0x0100 + 32 * e.slot.val) 3
      schedule := insertEntry s.clock.frame e s.schedule } := if_neg (Nat.not_le.mpr room)

/-- Settles O18: the timings by their word and kind, and the judging by where the due frame lies. -/
theorem ordersAreJudgedByTheirTiming : Obligations.OrdersAreJudgedByTheirTiming := by
  refine ⟨fun t o => ⟨?_, fun h => readWhen_atOnce h o, readWhen_atFrame, readWhen_again⟩, fun n t o v => ?_⟩
  · rw [readWhen_eq_none_iff, allows_atFrame_iff, allows_again_iff]
  intro late grace
  refine ⟨judgeOrder_badArg, judgeOrder_atOnce, fun allowed timed stopped => ?_, fun allowed timed moving => ?_⟩
  · exact judgeOrder_stopped allowed timed (Bool.eq_false_iff.mpr fun h => (running_iff v).mp h stopped)
  · have running := (running_iff v).mpr moving
    refine ⟨fun ahead full => ?_, fun ahead room => ⟨heldEntry n t o, ?_, rfl, rfl, rfl, fun h => ?_, fun h => ?_⟩,
      judgeOrder_tooLate allowed timed running,
      fun one due within => judgeOrder_atFrame_due (readWhen_atFrame allowed one) running due within⟩
    · exact (judgeOrder_ahead allowed timed running ahead).trans (holdOrder_full full)
    · exact (judgeOrder_ahead allowed timed running ahead).trans (holdOrder_room room)
    · exact if_neg (by rw [h]; decide)
    · exact if_pos h

/-! ## Late REPEATs (R149) -/

/-- R149: a REPEAT taken with this lateness, its earlier occurrences passed over. -/
def Repeating.passed (t : Timing) (late : Nat) : Repeating :=
  Repeating.passOver { Repeating.fresh t with late := decide (0 < late) } (late / t.interval.toNat) t.due

/-- With count 0, or more firings than occurrences, every earlier occurrence is passed over. -/
theorem passed_eq {t : Timing} {late : Nat} (more : t.count = 0 ∨ late / t.interval.toNat + 1 < t.count.toNat) :
    Repeating.passed t late =
      { interval := t.interval.toNat
        left := if t.count = 0 then none else some (t.count.toNat - late / t.interval.toNat)
        fired := 0, missed := late / t.interval.toNat
        firstFiring := if late / t.interval.toNat = 0 then none else some t.due
        lastResult := none, late := decide (0 < late) } := by
  by_cases zero : t.count = 0
  · simp only [Repeating.passed, Repeating.passOver, Repeating.fresh, if_pos zero, Option.getD_none, min_self,
      Option.map_none, Nat.zero_add]
  · have within : min (late / t.interval.toNat) t.count.toNat = late / t.interval.toNat :=
      min_eq_left (by have := more.resolve_left zero; omega)
    simp only [Repeating.passed, Repeating.passOver, Repeating.fresh, if_neg zero, Option.getD_some, within,
      Option.map_some, Nat.zero_add]

theorem takeLateRepeat_held {n : SlotId} {t : Timing} {o : Order} {late : Nat} {s s' : State} {res : Result} {r : Repeating}
    (answer : s.dispatch { slot := n, fired := false, again := true, late := decide (0 < late) } o = (s', res))
    (counted : Repeating.count (Repeating.passed t late) t.due (Result.code res) = r)
    (open_ : (Repeating.passed t late).left ≠ some 0) (more : r.left ≠ some 0) (room : s.schedule.length < 32) :
    takeLateRepeat n t o late s = addEntry
      { slot := n, kind := orderKind o
        due := t.due + BitVec.ofNat 32 (late / t.interval.toNat * t.interval.toNat) + BitVec.ofNat 32 r.interval
        again := some r } (s'.putSlotState n SlotState.held) := by
  subst counted
  unfold Repeating.passed at *
  simp only [takeLateRepeat, if_neg open_, Nat.not_le.mpr room, and_false, if_false, answer, settleRepeat, if_neg more]

/-- Settles O19: the REPEAT passes over its earlier occurrences, counts the one it carries out, and is held for the next. -/
theorem lateRepeatsAreCarriedOutOnce : Obligations.LateRepeatsAreCarriedOutOnce := by
  intro n t o v late passed again moving due within more room
  have positive : decide (0 < late) = decide (0 < late.toNat) := decide_eq_decide.mpr (by omega)
  obtain ⟨⟨v', res⟩, answer⟩ : ∃ d, v.dispatch { slot := n, fired := false, again := true, late := decide (0 < late) } o = d :=
    ⟨_, rfl⟩
  have before := passed_eq (t := t) (late := late.toNat) more
  have still : (Repeating.passed t late.toNat).left ≠ some 0 := by
    rw [before]
    rcases more with zero | more
    · simp [zero]
    · by_cases zero : t.count = 0
      · simp [zero]
      · simp only [if_neg zero, ne_eq, Option.some.injEq]
        omega
  have left : (Repeating.count (Repeating.passed t late.toNat) t.due (Result.code res)).left =
      if t.count = 0 then none else some (t.count.toNat - (passed + 1)) := by
    rw [Repeating.count, before]
    by_cases zero : t.count = 0
    · simp [zero]
    · simp only [if_neg zero, Option.map_some, Nat.sub_sub, passed]
  have next : (Repeating.count (Repeating.passed t late.toNat) t.due (Result.code res)).left ≠ some 0 := by
    rw [left]
    by_cases zero : t.count = 0
    · simp [zero]
    · have := more.resolve_left zero
      simp only [if_neg zero, ne_eq, Option.some.injEq]
      omega
  have held := takeLateRepeat_held (positive ▸ answer) rfl still next room
  refine ⟨v', res, _, _, answer, (judgeOrder_again_due again ((running_iff v).mpr moving) due within).trans held, rfl, rfl, ?_,
    rfl, ?_, ?_, left, ?_, fun done => ?_, fun failed => ?_⟩
  · rw [Repeating.count, before, add_assoc, ← BitVec.ofNat_add, Nat.succ_mul]
  · rw [Repeating.count, before]
  · rw [Repeating.count, before, positive]
  · rw [Repeating.count, before]
    by_cases zero : late.toNat / t.interval.toNat = 0 <;> simp [zero]
  · simp [Repeating.count, before, done, bump, passed]
  · simp [Repeating.count, before, failed, bump, passed]

/-! ## CANCEL (R154, R157) -/

theorem slotIntact_iff (s : State) (e : Entry) : s.slotIntact e = true ↔
    s.slotWord e.slot 0 = 3 ∧ s.slotWord e.slot 1 = e.kind ∧ s.slotWord e.slot 2 = ~~~ e.kind := by
  simp only [slotIntact, Bool.and_eq_true, decide_eq_true_eq, and_assoc]
  refine and_congr_right fun _ => ⟨fun ⟨check, kind⟩ => ⟨kind, kind ▸ check⟩, fun ⟨kind, check⟩ => ⟨kind ▸ check, kind⟩⟩

theorem toNat_num_val {k : Nat} (hk : k ≤ 65536) (i : Fin k) : (num i.val).toNat = i.val := by
  rw [num, BitVec.toNat_ofNat]
  omega

theorem readFin_num {k : Nat} (hk : k ≤ 65536) (i : Fin k) : readFin k (num i.val) = some i :=
  readFin_of_val (toNat_num_val hk i).symm

theorem ownCancel_not_held {m : SlotId} {s : State} (h : s.entryOf m = none) : s.ownCancel (num m.val) = refuse .notHeld s := by
  simp only [ownCancel, readFin_num (by decide) m, h]

theorem ownCancel_intact {m : SlotId} {s : State} {e : Entry} (h : s.entryOf m = some e) (intact : s.slotIntact e = true) :
    s.ownCancel (num m.val) = acceptWith (cancelReply e) (completeEntry m .cancelled e.again (removeEntry m s)) := by
  simp only [ownCancel, readFin_num (by decide) m, h, intact, if_true]

theorem ownCancel_disturbed {m : SlotId} {s : State} {e : Entry} (h : s.entryOf m = some e)
    (disturbed : ¬ s.slotIntact e = true) : s.ownCancel (num m.val) = refuse .notHeld (loseEntry e .cancel s) := by
  simp only [ownCancel, readFin_num (by decide) m, h, if_neg disturbed]

theorem ownCancel_out_of_range {k : Word} {s : State} (h : 64 ≤ k.toNat) : s.ownCancel k = refuse .badArg s := by
  simp only [ownCancel, readFin_out_of_range h]

theorem exec_cancel {w : Nat} {n : SlotId} {t : Timing} {target : Word} {s s' : State} {code : ResultCode} {reply record}
    (ready : (upTo w s).bus.ready = true) (atOnce : t.timing = 0)
    (answer : (orderTaken n t (.cancel target) (upTo w s)).ownCancel target = (s', .completes code reply record)) :
    exec (.cancel w n t target) s = .next (completeSlot n code reply record s') :=
  exec_orderRow_completes (o := .cancel target) rfl ready atOnce answer

/-- Settles O55: CANCEL by whether the target holds an entry and whether its slot is intact. -/
theorem cancelRemovesTheEntry : Obligations.CancelRemovesTheEntry := by
  intro w n m t s target v ready atOnce
  have refused (k : Word) (high : 64 ≤ k.toNat) := exec_cancel ready atOnce (ownCancel_out_of_range (s :=
    orderTaken n t (.cancel k) (s.upTo w)) high)
  have completes {s' : State} {code : ResultCode} {reply} (answer : v.ownCancel target = (s', .completes code reply none)) :
      exec (.cancel w n t target) s = .next (completeSlot n code reply none s') := exec_cancel ready atOnce answer
  clear_value v
  refine ⟨fun absent => completes (ownCancel_not_held absent), fun e held intact => ?_, fun e held disturbed => ?_, refused⟩
  all_goals obtain rfl := entryOf_slot held
  · exact completes (ownCancel_intact held ((slotIntact_iff v e).mpr intact))
  · exact completes (ownCancel_disturbed held (mt (slotIntact_iff v e).mp disturbed))

/-! ## One look of a scan (R171, R172) -/

theorem scanLook_point {n : SlotId} {s : State} (h : s.scanner.point = some n) :
    s.scanLook = (lookAt n s).setScanner (Scanner.next (lookAt n s).scanner n) := by
  simp only [scanLook, h]

theorem lookAt_passed {n : SlotId} {s : State} (h : s.slotWord n 0 ≠ 1) : lookAt n s = s := if_neg h

theorem lookAt_filed {n : SlotId} {s : State} (h : s.slotWord n 0 = 1) : lookAt n s = judgeSlot n (beginTake n s) := if_pos h

theorem judgeSlot_malformed {n : SlotId} {s : State} (h : s.slotWord n 2 ≠ ~~~ s.slotWord n 1) :
    judgeSlot n s = completeSlot n .malformed Reply.zero none s := if_pos h

theorem judgeSlot_unknown {n : SlotId} {s : State} (check : s.slotWord n 2 = ~~~ s.slotWord n 1)
    (h : readOrder (s.slotWord n 1) (s.slotWord n) = none) :
    judgeSlot n s = completeSlot n .unknownKind Reply.zero none s := by
  simp only [judgeSlot, check, ne_eq, not_true, if_false, h]

theorem judgeSlot_order {n : SlotId} {s : State} {o : Order} (check : s.slotWord n 2 = ~~~ s.slotWord n 1)
    (h : readOrder (s.slotWord n 1) (s.slotWord n) = some o) : judgeSlot n s = judgeOrder n (s.slotTiming n) o s := by
  simp only [judgeSlot, check, ne_eq, not_true, if_false, h]

/-- Settles O57: a look is the taking of its slot when that is FILED, and then the scan point's move. -/
theorem scansLookAtSlotsInOrder : Obligations.ScansLookAtSlotsInOrder := by
  intro w n s u v moved
  have one : exec (.scan w 1) s = .next u.scanLook := rfl
  refine ⟨fun none => ?_, fun point => ?_, fun k => rfl⟩
  · exact one.trans (congrArg _ (scanLooks_none none 1))
  · have look {q : State} (h : lookAt n u = q) : exec (.scan w 1) s = .next (moved q) := by
      rw [one, scanLook_point point, h]
      rfl
    exact ⟨fun other => look (lookAt_passed other),
      fun filed bad => look ((lookAt_filed filed).trans (judgeSlot_malformed bad)),
      fun filed check unknown => look ((lookAt_filed filed).trans (judgeSlot_unknown check unknown)),
      fun o filed check order => look ((lookAt_filed filed).trans (judgeSlot_order check order))⟩

/-! ## Firings (R153 to R156) -/

theorem firingDue_of_first {n : SlotId} {s : State} {e : Entry} (moving : s.clock.state ≠ .stopped)
    (held : s.entryOf n = some e) (due : e.due = s.clock.frame)
    (first : ∀ x ∈ s.schedule, x.due = s.clock.frame → ¬ x.slot < n) : s.firingDue n = true := by
  have none_lower : (s.schedule.any fun x => x.due == s.frame && decide (x.slot < n)) = false := by
    rw [List.any_eq_false]
    intro x hx
    simp only [Bool.and_eq_true, beq_iff_eq, decide_eq_true_eq, not_and]
    exact first x hx
  have mine : (s.entryOf n).any (fun e => e.due == s.frame) = true := by
    rw [held, Option.any_some, due]
    exact beq_self_eq_true _
  simp [firingDue, (running_iff s).mpr moving, mine, none_lower]

theorem fire_disturbed {n : SlotId} {s : State} {e : Entry} (held : s.entryOf n = some e)
    (disturbed : ¬ s.slotIntact e = true) : fire n s = loseEntry e .firing s := by
  simp only [fire, held, if_neg disturbed]

theorem fire_intact {n : SlotId} {s : State} {e : Entry} {o : Order} (held : s.entryOf n = some e)
    (intact : s.slotIntact e = true) (order : readOrder (s.slotWord n 1) (s.slotWord n) = some o) :
    fire n s = fireEntry e o s := by
  simp only [fire, held, if_pos intact, order]

theorem fireEntry_single {e : Entry} {o : Order} {s : State} (h : e.again = none) :
    fireEntry e o s = carryOut { slot := e.slot, fired := true, again := false, late := false } o
      ((removeEntry e.slot s).putSlotState e.slot SlotState.taken) := by
  simp only [fireEntry, h]

theorem fireEntry_again {e : Entry} {o : Order} {s q : State} {r : Repeating} {res : Result} (h : e.again = some r)
    (answer : s.dispatch { slot := e.slot, fired := true, again := true, late := r.late } o = (q, res)) :
    fireEntry e o s = settleRepeat e (Repeating.count r s.frame (Result.code res)) (removeEntry e.slot q) := by
  simp only [fireEntry, h, answer]

/-- Settles O58: a due entry is lost, carried out, or counted and settled, by its slot and its timing. -/
theorem firingsCarryOutHeldOrders : Obligations.FiringsCarryOutHeldOrders := by
  intro w n s e o u
  have row : exec (.scheduleFiring w n) s = .next (takeIfDue (.firing n) u) := rfl
  clear_value u
  intro left moving held due first
  obtain rfl := entryOf_slot held
  rw [row, takeIfDue_due (e := .firing e.slot) (firingDue_of_first moving held due first), takeEvent]
  refine ⟨fun disturbed => ?_, fun state kind check order => ⟨fun single => ?_, fun r again => ?_⟩⟩
  · rw [fire_disturbed held (mt (slotIntact_iff u e).mp disturbed)]
    rfl
  all_goals
    have intact : u.slotIntact e = true := (slotIntact_iff u e).mpr ⟨state, kind, check⟩
    rw [fire_intact held intact (kind ▸ order)]
  · rw [fireEntry_single single]
    rfl
  · obtain ⟨⟨q, res⟩, answer⟩ : ∃ d, u.dispatch { slot := e.slot, fired := true, again := true, late := r.late } o = d :=
      ⟨_, rfl⟩
    rw [fireEntry_again again answer]
    refine ⟨q, res, Repeating.count r u.frame (Result.code res), answer, rfl, rfl, rfl, rfl, rfl, fun done => ?_, fun failed => ?_,
      fun more => congrArg _ (if_neg more), fun last => ?_⟩
    · simp [Repeating.count, done, bump]
    · simp [Repeating.count, failed, bump]
    · rw [settleRepeat, if_pos last]
      rfl

end Sys2Proof.Machine
end

section
/-! SUPPORT. The Report Writer at work (R175 to R177, R180): what a written record, a dropped report and a written completion
leave in the store. -/

namespace Sys2Proof.Machine

open State

/-! ## Records (R175, R184) -/

theorem fields_detail_length (b : ReportBody) : b.fields.2.2.length = 8 := by
  have optional (x : Option Int) : (optSigned32 x).length = 2 := by cases x <;> rfl
  cases b <;> simp [ReportBody.fields, signed32, wide32, num32, optional]

theorem reportWords_length (n : Word) (r : Report) : (reportWords n r).length = 16 := by
  simp [reportWords, wide32, num32, fields_detail_length]

/-- The place of the next record in the log. -/
def State.recordPlace (s : State) : Nat := 0x0900 + 16 * (s.writer.written.toNat % 1024)

/-- R175: the record's words, the writer's counts, and last the written count. -/
theorem writeRecord_steps (r : Report) (s : State) : writeRecord r s =
    ((s.putWords s.recordPlace (reportWords s.writer.sequence r)).setWriter { s.writer with
      sequence := s.writer.sequence + 1, written := s.writer.written + 1
      urgent := s.writer.urgent || r.urgent }).putWord 0x0003 (s.writer.written + 1) := rfl

theorem recordPlace_ge (s : State) : 0x0900 ≤ s.recordPlace := Nat.le_add_right _ _

theorem word_setWriter (s : State) (x : Writer) (a : Nat) : (s.setWriter x).word a = s.word a := rfl

theorem word_writeRecord {s : State} (sound : s.storeSound) (r : Report) (a : Nat) : (writeRecord r s).word a =
    if a = 3 then s.writer.written + 1 else (s.putWords s.recordPlace (reportWords s.writer.sequence r)).word a := by
  have before := kept_storeSound.putWords (reportWords s.writer.sequence r) s.recordPlace sound
  rw [writeRecord_steps, word_putWord (kept_storeSound.setWriter _ before), word_setWriter]

theorem word_writeRecord_count {s : State} (sound : s.storeSound) (r : Report) :
    (writeRecord r s).word 0x0003 = s.writer.written + 1 := by
  rw [word_writeRecord sound, if_pos rfl]

theorem word_writeRecord_low {s : State} (sound : s.storeSound) (r : Report) {a : Nat} (low : a < 0x0900) (other : a ≠ 3) :
    (writeRecord r s).word a = s.word a := by
  have := recordPlace_ge s
  rw [word_writeRecord sound, if_neg other]
  exact word_putWords_other sound (by omega)

theorem word_writeRecord_at {s : State} (sound : s.storeSound) (r : Report) {k : Nat} (hk : k < 16) :
    (writeRecord r s).word (s.recordPlace + k) = (reportWords s.writer.sequence r)[k]! := by
  have := recordPlace_ge s
  have other : s.recordPlace + k ≠ 3 := by omega
  rw [word_writeRecord sound, if_neg other]
  exact word_putWords_at sound (by rw [reportWords_length]; exact hk)

theorem word_writeRecord_outside {s : State} (sound : s.storeSound) (r : Report) {a : Nat} (high : 0x0900 ≤ a)
    (outside : a < s.recordPlace ∨ s.recordPlace + 16 ≤ a) : (writeRecord r s).word a = s.word a := by
  have other : a ≠ 3 := by omega
  rw [word_writeRecord sound, if_neg other]
  exact word_putWords_other sound (by rw [reportWords_length]; exact outside)

/-! ## Writing and dropping the report at the head (R175, R176) -/

/-- The LOG_GAP record of a state. -/
def State.gapReport (s : State) : Report :=
  { position := s.here, urgent := true, body := .logGap s.writer.gap s.writer.dropped }

theorem writeGap_record {s : State} (gap : 0 < s.writer.gap) (room : s.logRoom = true) :
    s.writeGap = (writeRecord s.gapReport s).setWriter { (writeRecord s.gapReport s).writer with gap := 0 } :=
  if_pos ⟨gap, room⟩

theorem countDrop_ready {s : State} (ready : s.bus.ready = true) : s.countDrop = { s with
    store := s.store.putWord 0x0004 (num (min 65535 (s.writer.dropped + 1)))
    writer := { s.writer with dropped := min 65535 (s.writer.dropped + 1), gap := min 65535 (s.writer.gap + 1) } } := by
  simp only [countDrop, ready, if_true]
  rfl

theorem reportWrite_head {s : State} {r : Report} {rest : List QueueItem} (ready : s.bus.ready = true)
    (head : s.writer.queue = .report r :: rest) :
    s.reportWrite = placeReport r (s.setWriter { s.writer with queue := rest }) := by
  simp only [reportWrite, head, ready, if_true]

theorem placeReport_written {s : State} {r : Report} (none_owed : s.writer.gap = 0) (room : s.logRoom = true) :
    placeReport r s = writeRecord r s := by
  have same : s.writeGap = s := writeGap_not fun h => absurd none_owed (Nat.ne_of_gt h.1)
  simp only [placeReport, same, room, if_true]

theorem placeReport_dropped {s : State} {r : Report} (full : ¬ s.logRoom = true) : placeReport r s = s.countDrop := by
  have same : s.writeGap = s := writeGap_not fun h => full h.2
  simp only [placeReport, same, if_neg full]

/-- After a LOG_GAP the log holds one unread record more. -/
theorem logRoom_writeGap {s : State} (sound : s.storeSound) (gap : 0 < s.writer.gap) (room : s.logRoom = true) :
    s.writeGap.logRoom = true ↔ (s.writer.written - s.word 0x0010).toNat < 1023 := by
  have read : s.writeGap.word 0x0010 = s.word 0x0010 := by
    rw [writeGap_record gap room]
    exact (word_setWriter _ _ _).trans (word_writeRecord_low sound _ (by decide) (by decide))
  have written : s.writeGap.writer.written = s.writer.written + 1 := by rw [writeGap_record gap room]; rfl
  rw [logRoom_iff] at room ⊢
  rw [read, written]
  bv_omega

theorem placeReport_after_gap {s : State} {r : Report} (room : s.writeGap.logRoom = true) :
    placeReport r s = writeRecord r s.writeGap := by
  simp only [placeReport, room, if_true]

theorem placeReport_gap_fills {s : State} {r : Report} (full : ¬ s.writeGap.logRoom = true) :
    placeReport r s = s.writeGap.countDrop := by
  simp only [placeReport, if_neg full]

/-- The record after the next one has another place in the log. -/
theorem recordPlace_next {s t : State} (h : t.writer.written = s.writer.written + 1) :
    t.recordPlace + 16 ≤ s.recordPlace ∨ s.recordPlace + 16 ≤ t.recordPlace := by
  have below := s.writer.written.isLt
  have wrapped : (s.writer.written + 1).toNat = (s.writer.written.toNat + 1) % 65536 := by
    rw [BitVec.toNat_add]
    rfl
  simp only [recordPlace, h, wrapped]
  omega

/-- Settles O59: the head of the queue is written, dropped, or written after the LOG_GAP that is owed, by the log's room. -/
theorem reportsAreWrittenOrDropped : Obligations.ReportsAreWrittenOrDropped := by
  intro w s r rest u
  have row : exec (.reportWrite w) s = .next u.reportWrite := rfl
  clear_value u
  intro unread ready head
  obtain ⟨t, taken⟩ : ∃ t, t = u.setWriter { u.writer with queue := rest } := ⟨_, rfl⟩
  rw [row, reportWrite_head ready head, ← taken]
  have same_room : t.logRoom = true ↔ unread < 1024 := by rw [taken]; exact logRoom_iff u
  have sound_of : u.storeSound → t.storeSound := by rw [taken]; exact id
  have unread_eq : (t.writer.written - t.word 0x0010).toNat = unread := by rw [taken]; rfl
  have open_ : t.bus.ready = true := by rw [taken]; exact ready
  have gap_of : t.writer.gap = u.writer.gap := by rw [taken]; rfl
  refine ⟨fun none_owed room => ?_, fun full => ?_, fun sound gap room => ?_, fun sound gap last => ?_⟩
  · rw [placeReport_written (gap_of.trans none_owed) (same_room.mpr room), writeRecord_eq, taken]
    rfl
  · rw [placeReport_dropped (fun room => absurd (same_room.mp room) (Nat.not_lt.mpr full)), countDrop_ready open_, taken]
    rfl
  all_goals
    rw [← gap_of] at gap
    have roomy : t.logRoom = true := same_room.mpr (by omega)
    have gap_sound : t.writeGap.storeSound := kept_storeSound.writeGap (sound_of sound)
    have gap_writer : t.writeGap.writer = { u.writer with
        queue := rest, sequence := u.writer.sequence + 1, written := u.writer.written + 1, urgent := true, gap := 0 } := by
      rw [writeGap_record gap roomy, taken, writeRecord_eq]
      simp [gapReport]
    have gap_word {a : Nat} : t.writeGap.word a = (writeRecord t.gapReport t).word a := by
      rw [writeGap_record gap roomy, word_setWriter]
    have again := logRoom_writeGap (sound_of sound) gap roomy
    rw [unread_eq] at again
  · rw [placeReport_after_gap (again.mpr room)]
    have next : t.writeGap.recordPlace = 0x0900 + 16 * ((u.writer.written + 1).toNat % 1024) := by
      rw [recordPlace, gap_writer]
    have first : t.recordPlace = 0x0900 + 16 * (u.writer.written.toNat % 1024) := by rw [recordPlace, taken]; rfl
    refine ⟨_, rfl, ?_, ?_, fun k hk => ?_, fun k hk => ?_⟩
    · rw [writeRecord_eq, gap_writer]
      simp [add_assoc]
    · rw [word_writeRecord_count gap_sound, gap_writer]
      simp [add_assoc]
    · have apart := recordPlace_next (s := t) (t := t.writeGap) (by rw [gap_writer, taken]; rfl)
      have := recordPlace_ge t
      rw [← first, word_writeRecord_outside gap_sound r (by omega) (by omega), gap_word,
        word_writeRecord_at (sound_of sound) _ hk, taken]
      rfl
    · rw [← next, word_writeRecord_at gap_sound r hk, gap_writer]
  · have full : ¬ t.writeGap.logRoom = true := fun room => absurd (again.mp room) (by omega)
    have gap_ready : t.writeGap.bus.ready = true := by rw [writeGap_record gap roomy]; exact open_
    rw [placeReport_gap_fills full, countDrop_ready gap_ready]
    refine ⟨_, rfl, ?_, ?_, ?_⟩
    · simp [gap_writer]
    · refine (word_putWord gap_sound 0x0004 _ 0x0003).trans ?_
      rw [if_neg (by decide), gap_word, word_writeRecord_count (sound_of sound), taken]
      rfl
    · refine (word_putWord gap_sound 0x0004 _ 0x0004).trans ?_
      rw [if_pos rfl, gap_writer]

/-! ## Completions (R177, R180) -/

theorem completionWrite_head {s : State} {c : Completion} {rest : List QueueItem} (ready : s.bus.ready = true)
    (head : s.writer.queue = .completion c :: rest) :
    s.completionWrite = placeCompletion c (s.setWriter { s.writer with queue := rest }) := by
  simp only [completionWrite, head, ready, if_true]

/-- A completion writes the store alone. -/
theorem placeCompletion_frame (c : Completion) (s : State) :
    placeCompletion c s = { s with store := (placeCompletion c s).store } := by
  obtain ⟨slot, code, fired, missed, frame, reply, record⟩ := c
  cases record <;> simp only [placeCompletion, writeReply, putSlotState, putWords, putWord]

theorem placeCompletion_setWriter (c : Completion) (s : State) (x : Writer) : placeCompletion c (s.setWriter x) =
    { s with store := (placeCompletion c (s.setWriter x)).store, writer := x } := placeCompletion_frame c (s.setWriter x)

theorem word_writeReply_other {s : State} (sound : s.storeSound) {r : Option ReplyRecord} {a : Nat}
    (outside : ∀ x, r = some x → a < x.address ∨ x.address + min x.words.length x.capacity ≤ a) :
    (writeReply r s).word a = s.word a := by
  cases r with
  | none => rfl
  | some x =>
    refine word_putWords_other sound ?_
    rw [List.length_take, min_comm]
    exact outside x rfl

theorem word_writeReply_at {s : State} (sound : s.storeSound) (x : ReplyRecord) {k : Nat}
    (hk : k < min x.words.length x.capacity) : (writeReply (some x) s).word (x.address + k) = x.words[k]! := by
  have within : k < (x.words.take x.capacity).length := by rw [List.length_take, min_comm]; exact hk
  rw [writeReply, word_putWords_at sound within, getElem!_pos _ k within, getElem!_pos _ k (by omega), List.getElem_take]

theorem resultWords_length (c : Completion) : (resultWords c).length = 8 := rfl

theorem slotState_eq (code : ResultCode) : code.slotState = if code = .done ∨ code = .doneLate then 4 else 5 := by
  cases code <;> rfl

/-- Words that a completion does not write: all but its reply record's, its result words and its state word. -/
theorem word_placeCompletion_other {s : State} (sound : s.storeSound) {c : Completion} {a : Nat}
    (state : a ≠ 0x0100 + 32 * c.slot.val)
    (result : a < 0x0100 + 32 * c.slot.val + 24 ∨ 0x0100 + 32 * c.slot.val + 32 ≤ a) :
    (placeCompletion c s).word a = (writeReply c.record s).word a := by
  have replied : (writeReply c.record s).storeSound := kept_storeSound.writeReply _ sound
  rw [placeCompletion, word_putSlotState_other (kept_storeSound.putWords _ _ replied) state]
  exact word_putWords_other replied (by rw [resultWords_length, Address.slot]; omega)

theorem slotWord_placeCompletion_result {s : State} (sound : s.storeSound) (c : Completion) {k : Nat} (hk : k < 8) :
    (placeCompletion c s).slotWord c.slot (24 + k) = (resultWords c)[k]! := by
  have replied : (writeReply c.record s).storeSound := kept_storeSound.writeReply _ sound
  rw [placeCompletion, slotWord_putSlotState (kept_storeSound.putWords _ _ replied), if_neg (by omega), slotWord,
    ← Nat.add_assoc]
  exact word_putWords_at replied hk

theorem slotWord_placeCompletion_state {s : State} (sound : s.storeSound) (c : Completion) :
    (placeCompletion c s).slotWord c.slot 0 = c.code.slotState := by
  rw [placeCompletion, slotWord_putSlotState (kept_storeSound.putWords _ _ (kept_storeSound.writeReply _ sound)), if_pos rfl]

/-- Settles O60: the reply record, the result words and the state word are written at their places, and no other word. -/
theorem completionsAreWritten : Obligations.CompletionsAreWritten := by
  intro w s c rest u
  have row : exec (.completionWrite w) s = .next u.completionWrite := rfl
  clear_value u
  intro sound ready head area
  obtain ⟨t, taken⟩ : ∃ t, t = u.setWriter { u.writer with queue := rest } := ⟨_, rfl⟩
  have same (a : Nat) : t.word a = u.word a := by rw [taken]; rfl
  have sound_t : t.storeSound := by rw [taken]; exact sound
  have result {k : Nat} (hk : k < 8) := slotWord_placeCompletion_result sound_t c hk
  have slot_low := c.slot.isLt
  refine ⟨placeCompletion c t, ?_, ?_, result (k := 0) (by decide), result (k := 1) (by decide), result (k := 2) (by decide),
    result (k := 3) (by decide), result (k := 4) (by decide), result (k := 5) (by decide), result (k := 6) (by decide),
    result (k := 7) (by decide), ?_, fun k low high => ?_, fun x k record hk => ?_, fun a outside apart => ?_⟩
  · rw [row, completionWrite_head ready head, taken]
  · rw [taken]
    exact placeCompletion_setWriter c u _
  · rw [slotWord_placeCompletion_state sound_t, slotState_eq]
  · rw [slotWord_eq, word_placeCompletion_other sound_t (by omega) (by omega), word_writeReply_other sound_t, same]
    · rfl
    · intro x record
      have := (area x record).1
      omega
  · have := (area x record).1
    rw [word_placeCompletion_other sound_t (by omega) (by omega), record, word_writeReply_at sound_t x hk]
  · rw [word_placeCompletion_other sound_t (by omega) (by omega), word_writeReply_other sound_t apart, same]

end Sys2Proof.Machine
end

section
/-! SUPPORT. The operands of the orders (10.6): what each reader accepts and what it makes of an accepted word, and the orders
whose owners only check and store: CLOCK_TUNE, PORT_SET and PORT_OFF, INPUT_SET, MARK_SET and GROUP_SET. -/

namespace Sys2Proof.Machine

open State

/-! ## Words and flags (10.6) -/

theorem toNat_le_one_iff (w : Word) : w.toNat ≤ 1 ↔ w = 0 ∨ w = 1 := by bv_omega

theorem readFlag_eq_some {w : Word} {b : Bool} : readFlag w = some b ↔ w.toNat ≤ 1 ∧ b = decide (w = 1) := by
  rw [toNat_le_one_iff]
  by_cases zero : w = 0
  · subst zero
    cases b <;> decide
  · by_cases one : w = 1
    · subst one
      cases b <;> decide
    · simp only [readFlag, zero, one, if_false, or_self, false_and]
      exact ⟨nofun, False.elim⟩

theorem readFlag_eq_none {w : Word} : readFlag w = none ↔ 1 < w.toNat := by
  rw [← not_le, toNat_le_one_iff, readFlag]
  split <;> simp_all

theorem readFlag_flag (b : Bool) : readFlag (flag b) = some b := by cases b <;> rfl

theorem readRange_eq_some {lo hi k : Nat} {w : Word} :
    readRange lo hi w = some k ↔ (lo ≤ w.toNat ∧ w.toNat ≤ hi) ∧ k = w.toNat := by
  by_cases within : lo ≤ w.toNat ∧ w.toNat ≤ hi
  · simp [readRange, within, eq_comm]
  · simp only [readRange, within, if_false, false_and]
    exact ⟨nofun, False.elim⟩

theorem readRange_eq_none {lo hi : Nat} {w : Word} : readRange lo hi w = none ↔ ¬ (lo ≤ w.toNat ∧ w.toNat ≤ hi) := by
  rw [readRange]
  split <;> simp_all

theorem readFin_eq_some {k : Nat} {w : Word} {i : Fin k} : readFin k w = some i ↔ i.val = w.toNat := by
  refine ⟨fun h => ?_, readFin_of_val⟩
  rw [readFin] at h
  split at h <;> cases h
  rfl

theorem readFin_eq_none {k : Nat} {w : Word} : readFin k w = none ↔ k ≤ w.toNat := by
  rw [readFin]
  split <;> simp_all

theorem readOptFin_eq_some {k : Nat} {w : Word} {x : Option (Fin k)} : readOptFin k w = some x ↔
    (x = none ↔ w = 0xFFFF) ∧ ∀ i, x = some i → i.val = w.toNat := by
  by_cases absent : w = 0xFFFF
  · cases x <;> simp [readOptFin, absent]
  · rw [readOptFin, if_neg absent]
    cases x with
    | none =>
      refine ⟨fun h => ?_, fun h => absurd (h.1.mp rfl) absent⟩
      obtain ⟨_, _, impossible⟩ := Option.map_eq_some_iff.mp h
      cases impossible
    | some i =>
      simp only [Option.map_eq_some_iff, Option.some.injEq, exists_eq_right, readFin_eq_some]
      exact ⟨fun h => ⟨⟨nofun, fun is => absurd is absent⟩, fun j same => same ▸ h⟩, fun h => h.2 i rfl⟩

theorem readOptFin_eq_none {k : Nat} {w : Word} : readOptFin k w = none ↔ w ≠ 0xFFFF ∧ k ≤ w.toNat := by
  by_cases absent : w = 0xFFFF
  · simp [readOptFin, absent]
  · rw [readOptFin, if_neg absent, Option.map_eq_none_iff, readFin_eq_none]
    exact ⟨fun h => ⟨absent, h⟩, And.right⟩

/-- A reader of three codes 0, 1, 2. -/
theorem readCode_eq_none {α : Type} {w : Word} {x y z : α} :
    (if w = 0 then some x else if w = 1 then some y else if w = 2 then some z else none) = none ↔ 2 < w.toNat := by
  have : 2 < w.toNat ↔ ¬ w = 0 ∧ ¬ w = 1 ∧ ¬ w = 2 := by bv_omega
  rw [this]
  split_ifs <;> simp_all

theorem readCode_eq_some {α : Type} {w : Word} {a x y z : α}
    (h : (if w = 0 then some x else if w = 1 then some y else if w = 2 then some z else none) = some a) :
    a = if w = 0 then x else if w = 1 then y else z := by
  split_ifs at h ⊢ <;> simp_all

/-- A chain of readers refuses when one of them does. -/
theorem bind_eq_none_of {α β : Type} {x : Option α} {f : α → Option β} {p : Prop} (h : ∀ a, f a = none ↔ p) :
    (do let a ← x; f a) = none ↔ x = none ∨ p := by
  cases x <;> simp [h]

theorem eq_none_of_some_iff {α : Type} {x : Option α} {p : Prop} {a : α} (h : ∀ b, x = some b ↔ p ∧ b = a) :
    x = none ↔ ¬ p := by
  rw [Option.eq_none_iff_forall_ne_some]
  exact ⟨fun refused good => refused a ((h a).mpr ⟨good, rfl⟩), fun bad b accepted => bad ((h b).mp accepted).1⟩

/-! ## CLOCK_TUNE (R4, R7) -/

theorem readTune_eq_some {slew window holdover crash refUse : Word} (x : Tune) :
    readTune slew window holdover crash refUse = some x ↔
      (1 ≤ slew.toNat ∧ slew.toNat ≤ 255 ∧ window.toNat ≤ 255 ∧ 1 ≤ holdover.toNat ∧ crash.toNat ≤ 1 ∧ refUse.toNat ≤ 1) ∧
        x = { slew := slew.toNat, window := window.toNat, holdover := holdover.toNat,
              crash := decide (crash = 1), refUse := decide (refUse = 1) } := by
  have small := holdover.isLt
  constructor
  · intro h
    simp only [readTune, Option.bind_eq_bind, Option.bind_eq_some_iff, Option.pure_def, Option.some.injEq, readRange_eq_some, readFlag_eq_some] at h
    obtain ⟨_, ⟨hs, rfl⟩, _, ⟨hw, rfl⟩, _, ⟨hh, rfl⟩, _, ⟨hc, rfl⟩, _, ⟨hr, rfl⟩, rfl⟩ := h
    exact ⟨⟨hs.1, hs.2, hw.2, hh.1, hc, hr⟩, rfl⟩
  · rintro ⟨⟨low, high, window_le, positive, crash_le, use_le⟩, rfl⟩
    rw [readTune, readRange_eq_some.mpr ⟨⟨low, high⟩, rfl⟩, readRange_eq_some.mpr ⟨⟨Nat.zero_le _, window_le⟩, rfl⟩,
      readRange_eq_some.mpr ⟨⟨positive, by omega⟩, rfl⟩, readFlag_eq_some.mpr ⟨crash_le, rfl⟩,
      readFlag_eq_some.mpr ⟨use_le, rfl⟩]
    rfl

theorem ownClockTune_stopped {a : ClockTuneArgs} {s : State} (stopped : s.clock.state = .stopped) :
    s.ownClockTune a = refuse .noClock s := by
  have : s.running = false := Bool.eq_false_iff.mpr fun h => (running_iff s).mp h stopped
  simp [ownClockTune, this]

theorem ownClockTune_refused {a : ClockTuneArgs} {s : State} (moving : s.clock.state ≠ .stopped)
    (bad : readTune a.slew a.window a.holdover a.crash a.refUse = none) : s.ownClockTune a = refuse .badArg s := by
  simp [ownClockTune, (running_iff s).mpr moving, bad]

theorem ownClockTune_taken {a : ClockTuneArgs} {s : State} {x : Tune} (moving : s.clock.state ≠ .stopped)
    (good : readTune a.slew a.window a.holdover a.crash a.refUse = some x) :
    s.ownClockTune a = accept (s.setClock { s.clock with pendingTune := some x }) := by
  simp [ownClockTune, (running_iff s).mpr moving, good]

theorem exec_clockTune {w : Nat} {n : SlotId} {t : Timing} {a : ClockTuneArgs} {s s' : State} {code : ResultCode} {reply record}
    (ready : (upTo w s).bus.ready = true) (atOnce : t.timing = 0)
    (answer : (orderTaken n t (.clockTune a) (upTo w s)).ownClockTune a = (s', .completes code reply record)) :
    exec (.clockTune w n t a) s = .next (completeSlot n code reply record s') :=
  exec_orderRow_completes (o := .clockTune a) rfl ready atOnce answer

/-- Settles O22: CLOCK_TUNE by the clock's state and its arguments' ranges. -/
theorem clockTuneWaitsForTheBoundary : Obligations.ClockTuneWaitsForTheBoundary := by
  intro w n t a s v good ready atOnce
  have completes {s' : State} {code : ResultCode} (answer : v.ownClockTune a = (s', .completes code Reply.zero none)) :
      exec (.clockTune w n t a) s = .next (completeSlot n code Reply.zero none s') := exec_clockTune ready atOnce answer
  clear_value v
  refine ⟨fun stopped => ?_, fun moving bad => ?_, fun moving within => ?_⟩
  · exact completes (ownClockTune_stopped stopped)
  · exact completes (ownClockTune_refused moving ((eq_none_of_some_iff readTune_eq_some).mpr bad))
  · exact completes (ownClockTune_taken moving ((readTune_eq_some _).mpr ⟨within, rfl⟩))

/-! ## PORT_SET and PORT_OFF (R26, R30 to R32) -/

theorem readPortSet_eq_some {m : Nat} {a : PortSetArgs} {i : PortId} {p : PortSetting} :
    readPortSet m a = some (i, p) ↔ i.val = a.port.toNat ∧ a.invert.toNat ≤ 1 ∧ readShape a = some p.shape ∧
      p = { events := a.events.toNat, frames := a.frames.toNat, phase := a.phase.toNat, shape := p.shape
            invert := decide (a.invert = 1) } ∧ p.valid m = true := by
  simp only [readPortSet, Option.bind_eq_bind, Option.bind_eq_some_iff, readFin_eq_some, readFlag_eq_some,
    Option.pure_def, Option.ite_none_right_eq_some, Option.some.injEq, Prod.mk.injEq]
  constructor
  · rintro ⟨j, port, shape, read, b, ⟨flag_le, rfl⟩, valid, rfl, rfl⟩
    exact ⟨port, flag_le, read, rfl, valid⟩
  · rintro ⟨port, flag_le, read, made, valid⟩
    exact ⟨i, port, p.shape, read, _, ⟨flag_le, rfl⟩, made ▸ valid, rfl, made.symm⟩

theorem readShape_pulse {a : PortSetArgs} (h : a.shape = 0) : readShape a = some (.pulse a.width.toNat) := by
  simp [readShape, h]

theorem readShape_toggle {a : PortSetArgs} (h : a.shape = 1) : readShape a = some .toggle := by simp [readShape, h]

theorem readShape_gate {a : PortSetArgs} (h : a.shape = 2) : readShape a = some (.gate a.gate.toNat) := by
  simp [readShape, h]

theorem readShape_cases {a : PortSetArgs} {x : Shape} (h : readShape a = some x) :
    (a.shape = 0 ∧ x = .pulse a.width.toNat) ∨ (a.shape = 1 ∧ x = .toggle) ∨ (a.shape = 2 ∧ x = .gate a.gate.toNat) := by
  rw [readShape] at h
  split_ifs at h with pulse toggle gate
  · exact .inl ⟨pulse, (Option.some.inj h).symm⟩
  · exact .inr (.inl ⟨toggle, (Option.some.inj h).symm⟩)
  · exact .inr (.inr ⟨gate, (Option.some.inj h).symm⟩)

/-- R26: what a valid setting satisfies beside its shape's own fields. -/
theorem valid_iff (p : PortSetting) (m : Nat) : p.valid m = true ↔
    (1 ≤ p.events ∧ p.events ≤ 65535 ∧ p.events ≤ p.frames * m / 2 ∧ 1 ≤ p.frames ∧ p.frames ≤ 1024 ∧
      p.phase + 1 ≤ p.frames * m / p.events) ∧ p.shapeValid = true := by
  simp [PortSetting.valid, PortSetting.period]

/-- R26: at most one event in two ticks leaves a period of two ticks or more. -/
theorem two_le_period {c m e : Nat} (positive : 1 ≤ e) (sparse : e ≤ c * m / 2) : 2 ≤ c * m / e :=
  (Nat.le_div_iff_mul_le positive).mpr (by omega)

/-- Settles O34: the settings PORT_SET makes, by their ranges, and their widths. -/
theorem portSettingsInRange : Obligations.PortSettingsInRange := by
  intro r a _ m e c
  have events_lt := a.events.isLt
  have width_lt := a.width.isLt
  refine ⟨⟨?_, ?_⟩, fun i p set => ?_⟩
  · rintro ⟨⟨i, p⟩, set⟩
    obtain ⟨port, flag_le, read, made, valid⟩ := readPortSet_eq_some.mp set
    obtain ⟨⟨one, _, sparse, cadence, frames, phase⟩, shape⟩ := (valid_iff p m).mp valid
    rw [made] at one sparse cadence frames phase shape
    refine ⟨port ▸ i.isLt, one, sparse, cadence, frames, phase, flag_le, ?_⟩
    rcases readShape_cases read with ⟨code, made⟩ | ⟨code, made⟩ | ⟨code, made⟩ <;>
      simp only [PortSetting.shapeValid, made, decide_eq_true_eq] at shape
    · exact .inl ⟨code, shape.1⟩
    · exact .inr (.inl code)
    · exact .inr (.inr ⟨code, shape⟩)
  · rintro ⟨port, one, sparse, cadence, frames, phase, flag_le, shape⟩
    have set (x : Shape) (read : readShape a = some x) (valid : PortSetting.shapeValid
        { events := e, frames := c, phase := a.phase.toNat, shape := x, invert := decide (a.invert = 1) } = true) :
        ∃ y, readPortSet m a = some y :=
      ⟨(⟨a.port.toNat, port⟩, { events := e, frames := c, phase := a.phase.toNat, shape := x, invert := decide (a.invert = 1) }),
        readPortSet_eq_some.mpr ⟨rfl, flag_le, read, rfl, (valid_iff _ m).mpr
          ⟨⟨one, Nat.le_of_lt_succ events_lt, sparse, cadence, frames, phase⟩, valid⟩⟩⟩
    rcases shape with ⟨code, wide⟩ | code | ⟨code, gate⟩
    · exact set _ (readShape_pulse code) (decide_eq_true ⟨wide, Nat.le_of_lt_succ width_lt⟩)
    · exact set _ (readShape_toggle code) rfl
    · exact set _ (readShape_gate code) (decide_eq_true gate)
  · obtain ⟨port, flag_le, read, made, valid⟩ := readPortSet_eq_some.mp set
    obtain ⟨⟨one, _, sparse, _, _, _⟩, shape⟩ := (valid_iff p m).mp valid
    have is_shape {x : Shape} (h : readShape a = some x) : p.shape = x := Option.some.inj (read.symm.trans h)
    have period : p.period m = c * m / e := by rw [made]; rfl
    refine ⟨port, by rw [made], by rw [made], by rw [made], by rw [made], fun code => ?_, fun code => ?_, fun code => ?_⟩
    · have pulse := is_shape (readShape_pulse code)
      have width : p.width m = min a.width.toNat (c * m / e - 1) := by rw [PortSetting.width, pulse, period]
      have two : 2 ≤ c * m / e := two_le_period (by rw [made] at one; exact one) (by rw [made] at sparse; exact sparse)
      simp only [PortSetting.shapeValid, pulse, decide_eq_true_eq] at shape
      exact ⟨pulse, width, by omega⟩
    · have toggle := is_shape (readShape_toggle code)
      exact ⟨toggle, by rw [PortSetting.width, toggle]⟩
    · have gate := is_shape (readShape_gate code)
      exact ⟨gate, by rw [PortSetting.width, gate]⟩

/-- R31: the frame at which a pending setting or off applies. -/
def State.portApplyFrame (s : State) (i : PortId) : FrameNo :=
  match s.ports[i].active with
  | some x => s.clock.frame + BitVec.ofNat 32 (x.frames - s.ports[i].cadenceFrame)
  | none => s.clock.frame + 1

theorem nextStart_eq (s : State) (i : PortId) : s.ports[i].nextStart s.frame = s.portApplyFrame i := by
  cases h : s.ports[i].active <;> simp only [Port.nextStart, portApplyFrame, h] <;> rfl

theorem offerPort_clash {i : PortId} {x : PortPending} {width : Nat} {s : State} (waiting : s.ports[i].pending ≠ none) :
    s.offerPort i x width = refuse .clash s := by
  exact if_pos (Option.isSome_iff_ne_none.mpr waiting)

theorem offerPort_kept {i : PortId} {x : PortPending} {width : Nat} {s : State} (free : s.ports[i].pending = none) :
    s.offerPort i x width = acceptWith (Reply.wideThen (s.portApplyFrame i) (num width))
      (s.setPort i { s.ports[i] with pending := some x, applyFrame := some (s.portApplyFrame i) }) := by
  have some : ¬ s.ports[i].pending.isSome = true := by rw [free]; decide
  rw [← nextStart_eq]
  exact if_neg some

theorem running_false {s : State} (stopped : s.clock.state = .stopped) : s.running = false :=
  Bool.eq_false_iff.mpr fun h => (running_iff s).mp h stopped

theorem ownPortSet_refused {a : PortSetArgs} {s : State} (bad : readPortSet (rateTicks s.clock.rate) a = none) :
    s.ownPortSet a = refuse .badArg s := by
  have : readPortSet s.ticks a = none := bad
  simp [ownPortSet, this]

theorem ownPortSet_eq {a : PortSetArgs} {i : PortId} {p : PortSetting} {s : State}
    (set : readPortSet (rateTicks s.clock.rate) a = some (i, p)) : s.ownPortSet a =
      if s.running then s.offerPort i (.setting p) (p.width (rateTicks s.clock.rate))
      else acceptWith (Reply.wideThen 0 (num (p.width (rateTicks s.clock.rate)))) (s.setPort i (Port.store s.ports[i] p)) := by
  have : readPortSet s.ticks a = some (i, p) := set
  simp only [ownPortSet, this]
  rfl

theorem ownPortOff_eq {port : Word} {i : PortId} {s : State} (named : i.val = port.toNat) : s.ownPortOff port =
    if s.running then s.offerPort i .off 0 else accept (s.setPort i { s.ports[i] with active := none }) := by
  simp only [ownPortOff, readFin_of_val named]

theorem exec_portSet {w : Nat} {n : SlotId} {t : Timing} {a : PortSetArgs} {s s' : State} {code : ResultCode} {reply record}
    (ready : (upTo w s).bus.ready = true) (atOnce : t.timing = 0)
    (answer : (orderTaken n t (.portSet a) (upTo w s)).ownPortSet a = (s', .completes code reply record)) :
    exec (.portSet w n t a) s = .next (completeSlot n code reply record s') :=
  exec_orderRow_completes (o := .portSet a) rfl ready atOnce answer

theorem exec_portOff {w : Nat} {n : SlotId} {t : Timing} {port : Word} {s s' : State} {code : ResultCode} {reply record}
    (ready : (upTo w s).bus.ready = true) (atOnce : t.timing = 0)
    (answer : (orderTaken n t (.portOff port) (upTo w s)).ownPortOff port = (s', .completes code reply record)) :
    exec (.portOff w n t port) s = .next (completeSlot n code reply record s') :=
  exec_orderRow_completes (o := .portOff port) rfl ready atOnce answer

/-- Settles O35: PORT_SET and PORT_OFF by their arguments, the clock's state and what the port holds pending. -/
theorem portOrders : Obligations.PortOrders := by
  intro w n t a port s ready atOnce
  refine ⟨?_, ?_⟩
  · intro v m
    have completes {s' : State} {code : ResultCode} {reply : Reply}
        (answer : v.ownPortSet a = (s', .completes code reply none)) :
        exec (.portSet w n t a) s = .next (completeSlot n code reply none s') := exec_portSet ready atOnce answer
    clear_value v
    refine ⟨fun bad => completes (ownPortSet_refused bad), fun i p set => ?_⟩
    intro f
    have own := ownPortSet_eq set
    refine ⟨fun stopped => completes ?_, fun moving waiting => completes ?_, fun moving free => completes ?_⟩
    · rw [own, running_false stopped]
      rfl
    · rw [own, (running_iff v).mpr moving, if_pos rfl, offerPort_clash waiting]
      rfl
    · rw [own, (running_iff v).mpr moving, if_pos rfl, offerPort_kept free]
      rfl
  · intro v
    have completes {s' : State} {code : ResultCode} {reply : Reply}
        (answer : v.ownPortOff port = (s', .completes code reply none)) :
        exec (.portOff w n t port) s = .next (completeSlot n code reply none s') := exec_portOff ready atOnce answer
    clear_value v
    refine ⟨fun bad => completes ?_, fun i named => ?_⟩
    · simp only [ownPortOff, readFin_out_of_range bad]
      rfl
    intro f
    have own := ownPortOff_eq (s := v) named
    refine ⟨fun stopped => completes ?_, fun moving waiting => completes ?_, fun moving free => completes ?_⟩
    · rw [own, running_false stopped]
      rfl
    · rw [own, (running_iff v).mpr moving, if_pos rfl, offerPort_clash waiting]
      rfl
    · rw [own, (running_iff v).mpr moving, if_pos rfl, offerPort_kept free]
      rfl

/-! ## INPUT_SET (R75) -/

theorem readInputSet_eq {a : InputSetArgs} {i : InputId} (named : i.val = a.input.toNat) (flag_le : a.enable.toNat ≤ 1) :
    readInputSet a = some (i, decide (a.enable = 1), a.delay.toNat) := by
  simp [readInputSet, readFin_of_val named, readFlag_eq_some.mpr ⟨flag_le, rfl⟩]

theorem readInputSet_none {a : InputSetArgs} (bad : 8 ≤ a.input.toNat ∨ 2 ≤ a.enable.toNat) : readInputSet a = none :=
  (bind_eq_none_of fun _ => bind_eq_none_of (p := False) fun _ => by simp).mpr
    (bad.imp readFin_eq_none.mpr fun h => .inl (readFlag_eq_none.mpr h))

theorem configure_same {x : Input} {enable : Bool} (delay : Nat) (same : x.enable = enable) :
    Input.configure x enable delay = { x with enable := enable, delay := delay } := by
  simp [Input.configure, same]

theorem configure_on {x : Input} (delay : Nat) (off : x.enable = false) :
    Input.configure x true delay = { x.restart .hunt with since := 0, enable := true, delay := delay } := by
  simp [Input.configure, off]

theorem configure_off {x : Input} (delay : Nat) (on : x.enable = true) :
    Input.configure x false delay = { x.restart .idle with enable := false, delay := delay } := by
  simp [Input.configure, on]

theorem exec_inputSet {w : Nat} {n : SlotId} {t : Timing} {a : InputSetArgs} {s s' : State} {code : ResultCode} {reply record}
    (ready : (upTo w s).bus.ready = true) (atOnce : t.timing = 0)
    (answer : (orderTaken n t (.inputSet a) (upTo w s)).ownInputSet a = (s', .completes code reply record)) :
    exec (.inputSet w n t a) s = .next (completeSlot n code reply record s') :=
  exec_orderRow_completes (o := .inputSet a) rfl ready atOnce answer

/-- Settles O42: INPUT_SET refuses, stores the delay, or restarts the receiver on a change of enable. -/
theorem inputSetTakesEffectAtOnce : Obligations.InputSetTakesEffectAtOnce := by
  intro w n t a s v ready atOnce
  have completes {s' : State} {code : ResultCode} (answer : v.ownInputSet a = (s', .completes code Reply.zero none)) :
      exec (.inputSet w n t a) s = .next (completeSlot n code Reply.zero none s') := exec_inputSet ready atOnce answer
  clear_value v
  refine ⟨fun bad => completes ?_, fun i named flag_le => ⟨Input.configure v.inputs[i] (decide (a.enable = 1)) a.delay.toNat,
    completes ?_, ?_⟩⟩
  · rw [ownInputSet, readInputSet_none bad]
    rfl
  · rw [ownInputSet, readInputSet_eq named flag_le]
    rfl
  · generalize v.inputs[i] = x
    generalize decide (a.enable = 1) = enable
    by_cases same : x.enable = enable
    · rw [configure_same _ same]
      exact ⟨rfl, rfl, rfl, rfl, fun _ => by rw [← same], fun changed => absurd same changed⟩
    · cases enable with
      | false =>
        have on : x.enable = true := by simpa using same
        rw [configure_off _ on]
        exact ⟨rfl, rfl, rfl, rfl, fun h => absurd h same, fun _ => ⟨rfl, rfl, rfl, rfl, rfl, rfl⟩⟩
      | true =>
        have off : x.enable = false := by simpa using same
        rw [configure_on _ off]
        exact ⟨rfl, rfl, rfl, rfl, fun h => absurd h same, fun _ => ⟨rfl, rfl, rfl, rfl, rfl, rfl⟩⟩

/-! ## MARK_SET and GROUP_SET (R119, R128) -/

theorem readRole_eq_none (role target : Word) : readRole role target = none ↔
    (5 < role.toNat ∨ (1 ≤ role.toNat ∧ role.toNat ≤ 4 ∧ 7 < target.toNat) ∨ (role = 5 ∧ 15 < target.toNat)) := by
  rw [readRole]
  split_ifs with h0 h1 h2 h3 h4 h5 <;> simp only [Option.map_eq_none_iff, readFin_eq_none, true_iff, false_iff] <;>
    bv_omega

theorem readMarkSet_refused {a : MarkSetArgs} (ignored : Nat) (bad : readRole a.role a.target = none ∨ 3 ≤ a.edge.toNat ∨
    256 ≤ a.holdoff.toNat ∨ 256 ≤ a.quiet.toNat) : readMarkSet a ignored = none := by
  refine (bind_eq_none_of fun _ => bind_eq_none_of fun _ => bind_eq_none_of fun _ => bind_eq_none_of (p := False)
    fun _ => by simp).mpr ?_
  rw [readRange_eq_none, readRange_eq_none, readEdge, readCode_eq_none]
  rcases bad with role | edge | holdoff | quiet
  · exact .inl role
  · exact .inr (.inl edge)
  · exact .inr (.inr (.inl (by omega)))
  · exact .inr (.inr (.inr (.inl (by omega))))

theorem readMarkSet_made {a : MarkSetArgs} {role : Role} {e : Edge} (ignored : Nat) (read : readRole a.role a.target = some role)
    (edge : readEdge a.edge = some e) (holdoff : a.holdoff.toNat ≤ 255) (quiet : a.quiet.toNat ≤ 255) :
    readMarkSet a ignored = some { role := role, edge := e, windowBase := a.windowBase, windowLimit := a.windowLimit
                                   holdoff := a.holdoff.toNat, quiet := a.quiet.toNat, reArm := none
                                   remaining := a.quiet.toNat, silent := 0, ignored := ignored } := by
  rw [readMarkSet, read, edge, readRange_eq_some.mpr ⟨⟨Nat.zero_le _, holdoff⟩, rfl⟩,
    readRange_eq_some.mpr ⟨⟨Nat.zero_le _, quiet⟩, rfl⟩]
  rfl

theorem ownMarkSet_refused {a : MarkSetArgs} {s : State}
    (bad : 16 ≤ a.input.toNat ∨ ∀ ignored, readMarkSet a ignored = none) : s.ownMarkSet a = refuse .badArg s := by
  rcases bad with out | bad
  · simp only [ownMarkSet, readFin_out_of_range out]
  · rw [ownMarkSet]
    cases readFin 16 a.input with
    | none => rfl
    | some i => simp only [bad]

theorem ownMarkSet_made {a : MarkSetArgs} {i : MarkId} {m : MarkInput} {s : State} (named : i.val = a.input.toNat)
    (made : readMarkSet a s.marks[i].ignored = some m) : s.ownMarkSet a = accept (s.setMark i m) := by
  simp only [ownMarkSet, readFin_of_val named, made]

theorem exec_markSet {w : Nat} {n : SlotId} {t : Timing} {a : MarkSetArgs} {s s' : State} {code : ResultCode} {reply record}
    (ready : (upTo w s).bus.ready = true) (atOnce : t.timing = 0)
    (answer : (orderTaken n t (.markSet a) (upTo w s)).ownMarkSet a = (s', .completes code reply record)) :
    exec (.markSet w n t a) s = .next (completeSlot n code reply record s') :=
  exec_orderRow_completes (o := .markSet a) rfl ready atOnce answer

theorem exec_groupSet {w : Nat} {n : SlotId} {t : Timing} {a : TagArgs} {s s' : State} {code : ResultCode} {reply record}
    (ready : (upTo w s).bus.ready = true) (atOnce : t.timing = 0)
    (answer : (orderTaken n t (.groupSet a) (upTo w s)).ownGroupSet a = (s', .completes code reply record)) :
    exec (.groupSet w n t a) s = .next (completeSlot n code reply record s') :=
  exec_orderRow_completes (o := .groupSet a) rfl ready atOnce answer

/-- Settles O51: the roles and edges by their words, then MARK_SET and GROUP_SET by their arguments. -/
theorem markSetAndGroupSet : Obligations.MarkSetAndGroupSet := by
  refine ⟨fun role target edge => ⟨readRole_eq_none role target, rfl, fun g named => ?_, fun d named => ?_,
    readCode_eq_none, rfl, rfl, rfl⟩, fun w n t a g s ready atOnce => ⟨?_, ?_⟩⟩
  · have read := readFin_of_val named
    refine ⟨?_, ?_, ?_, ?_⟩ <;> simp [readRole, read]
  · simp [readRole, readFin_of_val named]
  · intro v
    have completes {s' : State} {code : ResultCode} (answer : v.ownMarkSet a = (s', .completes code Reply.zero none)) :
        exec (.markSet w n t a) s = .next (completeSlot n code Reply.zero none s') := exec_markSet ready atOnce answer
    clear_value v
    refine ⟨fun bad => completes ?_, fun i role e named read edge holdoff quiet => completes ?_⟩
    · exact ownMarkSet_refused (bad.imp_right fun h k => readMarkSet_refused k h)
    · exact ownMarkSet_made named (readMarkSet_made _ read edge holdoff quiet)
  · intro v
    have completes {s' : State} {code : ResultCode} (answer : v.ownGroupSet g = (s', .completes code Reply.zero none)) :
        exec (.groupSet w n t g) s = .next (completeSlot n code Reply.zero none s') := exec_groupSet ready atOnce answer
    clear_value v
    refine ⟨fun bad => completes ?_, fun i named => completes ?_⟩
    · simp only [ownGroupSet, readFin_out_of_range bad]
      rfl
    · simp only [ownGroupSet, readFin_of_val named]
      rfl

end Sys2Proof.Machine
end

section
/-! SUPPORT. Offsets, jumps and drift (R50 to R55), and the fields of a time word (R56, R79, R186). -/

namespace Sys2Proof.Machine

open State

/-! ## Saturation, offsets and drift (R50 to R55) -/

theorem saturate_above {m : Nat} {x : Int} (h : (m : Int) < x) : saturate m x = m := by
  unfold saturate
  omega

theorem saturate_below {m : Nat} {x : Int} (h : x < -(m : Int)) : saturate m x = -(m : Int) := by
  unfold saturate
  omega

theorem saturate_within {m : Nat} {x : Int} (low : -(m : Int) ≤ x) (high : x ≤ m) : saturate m x = x := by
  unfold saturate
  omega

theorem driftEstimate_not_after {o0 o1 : Int} {f0 f1 : FrameNo} (h : (f1 - f0).toInt ≤ 0) :
    driftEstimate o0 f0 o1 f1 = none := if_neg (not_lt.mpr h)

theorem driftEstimate_after {o0 o1 : Int} {f0 f1 : FrameNo} (h : 0 < (f1 - f0).toInt) : driftEstimate o0 f0 o1 f1 =
    some (saturate 32767 (Int.tdiv ((o1 - o0) * 1024) (f1 - f0).toInt)) := if_pos h

/-- Settles O32: the offset and the drift are saturations of their exact values. -/
theorem offsetsJumpsAndDrift : Obligations.OffsetsJumpsAndDrift := by
  refine ⟨fun start r delay l p _ => ?_, fun r o l => ⟨rfl, decide_eq_true_iff⟩, fun o0 o1 f0 f1 => ?_⟩
  · intro ca ce exact o
    have eq : o = saturate 2147483647 exact := rfl
    clear_value exact
    rw [eq]
    exact ⟨saturate_above, saturate_below, saturate_within⟩
  · intro span exact
    refine ⟨driftEstimate_not_after, fun after low high => ?_, fun after above => ?_, fun after below => ?_⟩ <;>
      refine (driftEstimate_after after).trans (congrArg some ?_)
    · exact saturate_within low high
    · exact saturate_above above
    · exact saturate_below below

/-! ## The fields of a time word (R56, 10.7) -/

section
variable {l : Label} {r : Nat} {jam : Bool} {user take : Byte}

/-- Below bit 56 a composed word is its body. -/
theorem extract_composeWord {a k : Nat} (h : a + k ≤ 56) :
    (composeWord l r jam user take).extractLsb' a k = (wordBody l r jam user take).extractLsb' a k :=
  BitVec.extractLsb'_append_eq_of_add_le h

theorem wordByte_composeWord_body {k : Nat} (hk : k < 7) :
    wordByte (composeWord l r jam user take) k = wordByte ((wordBody l r jam user take).setWidth 64) k := by
  rw [wordByte, wordByte, extract_composeWord (by omega), BitVec.extractLsb'_setWidth_of_le (by omega)]

theorem wordByte_composeWord_check : wordByte (composeWord l r jam user take) 7 =
    255 - byteSum ((wordBody l r jam user take).setWidth 64) 7 := by
  rw [wordByte, composeWord, BitVec.extractLsb'_append_eq_of_le (by decide)]
  exact BitVec.extractLsb'_eq_self

end

theorem byteSum_congr {x y : BitVec 64} {n : Nat} (same : ∀ k, k < n → wordByte x k = wordByte y k) :
    byteSum x n = byteSum y n := by
  induction n with
  | zero => rfl
  | succ n ih => rw [byteSum, byteSum, ih fun k hk => same k (by omega), same n (by omega)]

section
variable {l : Label} {r : Nat} {jam : Bool} {user take : Byte}

theorem byteSum_composeWord : byteSum (composeWord l r jam user take) 7 =
    byteSum ((wordBody l r jam user take).setWidth 64) 7 := byteSum_congr fun _ hk => wordByte_composeWord_body hk

theorem byteSum_composeWord_whole : byteSum (composeWord l r jam user take) 8 = 255 := by
  rw [byteSum, byteSum_composeWord, wordByte_composeWord_check]
  generalize byteSum ((wordBody l r jam user take).setWidth 64) 7 = x
  bv_omega

/-- Where each field of a word's body stands (10.7). -/
theorem extract_wordBody :
    (wordBody l r jam user take).extractLsb' 0 12 = syncValue ∧
    (wordBody l r jam user take).extractLsb' 12 6 = BitVec.ofNat 6 l.ff ∧
    (wordBody l r jam user take).extractLsb' 18 6 = BitVec.ofNat 6 l.ss ∧
    (wordBody l r jam user take).extractLsb' 24 6 = BitVec.ofNat 6 l.mm ∧
    (wordBody l r jam user take).extractLsb' 30 5 = BitVec.ofNat 5 l.hh ∧
    (wordBody l r jam user take).extractLsb' 35 4 = BitVec.ofNat 4 r ∧
    (wordBody l r jam user take).extractLsb' 39 1 = BitVec.ofBool jam ∧
    (wordBody l r jam user take).extractLsb' 40 8 = user ∧
    (wordBody l r jam user take).extractLsb' 48 8 = take := by
  refine ⟨?_, ?_, ?_, ?_, ?_, ?_, ?_, ?_, ?_⟩ <;>
    simp only [wordBody, BitVec.extractLsb'_append_eq_ite] <;> simp

theorem wordLabel_composeWord (valid : labelValid r l = true) : wordLabel (composeWord l r jam user take) = l := by
  obtain ⟨_, ff, ss, mm, hh, _⟩ := extract_wordBody (l := l) (r := r) (jam := jam) (user := user) (take := take)
  obtain ⟨_, hh_le, mm_le, ss_le, ff_lt, _⟩ := labelValid_iff.mp valid
  have base_le : labelBase r ≤ 60 := by unfold labelBase; split <;> decide
  simp only [wordLabel, extract_composeWord (show 12 + 6 ≤ 56 by decide), extract_composeWord (show 18 + 6 ≤ 56 by decide),
    extract_composeWord (show 24 + 6 ≤ 56 by decide), extract_composeWord (show 30 + 5 ≤ 56 by decide), ff, ss, mm, hh,
    BitVec.toNat_ofNat]
  rw [Nat.mod_eq_of_lt (by omega), Nat.mod_eq_of_lt (by omega), Nat.mod_eq_of_lt (by omega), Nat.mod_eq_of_lt (by omega)]

theorem wordRate_composeWord (rate : r ≤ 10) : wordRate (composeWord l r jam user take) = r := by
  obtain ⟨_, _, _, _, _, field, _⟩ := extract_wordBody (l := l) (r := r) (jam := jam) (user := user) (take := take)
  rw [wordRate, extract_composeWord (by decide), field, BitVec.toNat_ofNat]
  exact Nat.mod_eq_of_lt (by omega)

theorem wordJam_composeWord : wordJam (composeWord l r jam user take) = jam := by
  obtain ⟨_, _, _, _, _, _, field, _⟩ := extract_wordBody (l := l) (r := r) (jam := jam) (user := user) (take := take)
  have bit : wordJam (composeWord l r jam user take) = ((composeWord l r jam user take).extractLsb' 39 1).getLsbD 0 := by
    simp [wordJam]
  rw [bit, extract_composeWord (by decide), field]
  cases jam <;> rfl

end

/-- Settles O33: every field is read back where it was put, and the check byte makes the sum of the bytes 255. -/
theorem composedWordsReadBack : Obligations.ComposedWordsReadBack := by
  intro r l jam user take rate valid x
  have label : wordLabel x = l := wordLabel_composeWord valid
  have rate_eq : wordRate x = r := wordRate_composeWord rate
  have jam_eq : wordJam x = jam := wordJam_composeWord
  have below {a k : Nat} (h : a + k ≤ 56) : x.extractLsb' a k = (wordBody l r jam user take).extractLsb' a k :=
    extract_composeWord h
  have sum : byteSum x 8 = 255 := byteSum_composeWord_whole
  have check : wordByte x 7 = 255 - byteSum x 7 := by rw [byteSum_composeWord, ← wordByte_composeWord_check]
  clear_value x
  obtain ⟨sync, _, _, _, _, _, _, user_field, take_field⟩ :=
    extract_wordBody (l := l) (r := r) (jam := jam) (user := user) (take := take)
  have user_eq : wordByte x 5 = user := (below (by decide)).trans user_field
  have take_eq : wordByte x 6 = take := (below (by decide)).trans take_field
  have sync_eq : x.extractLsb' 0 12 = syncValue := (below (by decide)).trans sync
  refine ⟨?_, label, rate_eq, jam_eq, user_eq, take_eq, ?_, sync_eq, check⟩
  · rw [wordValid, sync_eq, sum, rate_eq, label, valid, decide_eq_true rate]
    rfl
  · rw [readWord, label, rate_eq, jam_eq, user_eq, take_eq]

end Sys2Proof.Machine
end

section
/-! SUPPORT. TALLY_SET and the tally lines (R38 to R41): its seven actions from a slot, at a frame boundary and fired by the
Schedule. -/

namespace Sys2Proof.Machine

open State

/-! ## Taking an order leaves the blocks (R169, R172) -/

/-- R172 step 1: taking a slot again touches the Schedule, the runs' origins, the output queue and the store alone. -/
theorem retake_frame (n : SlotId) (s : State) : retake n s = { s with
    schedule := (retake n s).schedule, runs := (retake n s).runs, writer := (retake n s).writer
    store := (retake n s).store } := by
  cases entry : s.entryOf n with
  | none =>
    rw [retake_no_entry entry]
    rfl
  | some e =>
    rw [retake_entry entry, loseEntry, State.report, handReport_frame]
    rfl

theorem orderTaken_frame (n : SlotId) (t : Timing) (o : Order) (u : State) : orderTaken n t o u = { u with
    schedule := (orderTaken n t o u).schedule, runs := (orderTaken n t o u).runs, writer := (orderTaken n t o u).writer
    store := (orderTaken n t o u).store } := by
  rw [orderTaken, beginTake, retake_frame]
  rfl

section
variable (n : SlotId) (t : Timing) (o : Order) (u : State)

theorem orderTaken_clock : (orderTaken n t o u).clock = u.clock := by rw [orderTaken_frame]

theorem orderTaken_lines : (orderTaken n t o u).lines = u.lines := by rw [orderTaken_frame]

theorem orderTaken_devices : (orderTaken n t o u).devices = u.devices := by rw [orderTaken_frame]

end

/-! ## The arguments of TALLY_SET (R39 to R41) -/

theorem readTally_of {a : TallySetArgs} {i : LineId} {x : TallyAction} (line : i.val = a.line.toNat)
    (action : readTallyAction a = some x) : readTally a = some (i, x) := by
  simp [readTally, readFin_of_val line, action]

theorem readTally_refused {a : TallySetArgs} (bad : 8 ≤ a.line.toNat ∨ readTallyAction a = none) : readTally a = none :=
  (bind_eq_none_of fun _ => bind_eq_none_of (p := False) fun _ => by simp).mpr
    (bad.imp readFin_eq_none.mpr .inl)

theorem readTallyAction_refused {a : TallySetArgs} (bad : 7 ≤ a.action.toNat ∨ (a.action = 3 ∧ a.value = 0) ∨
    (a.action = 4 ∧ 8 ≤ a.value.toNat) ∨ ((a.action = 4 ∨ a.action = 5) ∧ 1 < a.invert.toNat) ∨
    (a.action = 6 ∧ 1 < a.value.toNat)) : readTallyAction a = none := by
  rcases bad with large | ⟨action, value⟩ | ⟨action, value⟩ | ⟨action, invert⟩ | ⟨action, value⟩
  · rw [readTallyAction]
    split <;> first | rfl | omega
  · simp [readTallyAction, action, value, readRange]
  · simp [readTallyAction, action, readFin_eq_none.mpr value]
  · rcases action with action | action
    · cases group : readFin 8 a.value <;> simp [readTallyAction, action, group, readFlag_eq_none.mpr invert]
    · simp [readTallyAction, action, readFlag_eq_none.mpr invert]
  · simp [readTallyAction, action, readFlag_eq_none.mpr value]

theorem val_num_line (i : LineId) : i.val = (num i.val).toNat := (toNat_num_val (by decide) i).symm

/-! ## TALLY_SET from a slot (R41) -/

section
variable {a : TallySetArgs} {i : LineId} {x : TallyAction} {tk : Taking} {s : State}

theorem ownTallySet_refused (bad : readTally a = none) : s.ownTallySet tk a = refuse .badArg s := by
  simp only [ownTallySet, bad]

theorem ownTallySet_noClock (read : readTally a = some (i, x)) (drives : x.drives = true) (stopped : s.clock.state = .stopped) :
    s.ownTallySet tk a = refuse .noClock s := by
  simp [ownTallySet, read, drives, running_false stopped]

theorem ownTallySet_bound (read : readTally a = some (i, x)) (drives : x.drives = true) (moving : s.clock.state ≠ .stopped)
    (bound : s.lines[i].group ≠ none) : s.ownTallySet tk a = refuse .bound s := by
  have some : s.lines[i].group.isSome = true := Option.isSome_iff_ne_none.mpr bound
  simp only [ownTallySet, read, drives, (running_iff s).mpr moving, some]
  rfl

/-- The action may be taken: it drives no level, or the line is not bound. -/
theorem ownTallySet_allowed (read : readTally a = some (i, x)) (moving : x.drives = true → s.clock.state ≠ .stopped)
    (free : x.drives = true → s.lines[i].group = none) : s.ownTallySet tk a =
      if !s.running || tk.fired then acceptWith (Reply.wideThen s.frame 0) (s.actLine i x)
      else acceptWith (Reply.wideThen (s.frame + 1) 0) (s.setLine i { s.lines[i] with pending := some x }) := by
  have clock : ¬ (x.drives && !s.running) = true := by
    rw [Bool.and_eq_true]
    rintro ⟨drives, stopped⟩
    rw [(running_iff s).mpr (moving drives)] at stopped
    exact Bool.noConfusion stopped
  have line : ¬ (x.drives && s.lines[i].group.isSome) = true := by
    rw [Bool.and_eq_true]
    rintro ⟨drives, bound⟩
    rw [free drives] at bound
    exact Bool.noConfusion bound
  simp only [ownTallySet, read, if_neg clock, if_neg line]

theorem ownTallySet_waits (read : readTally a = some (i, x)) (scanned : tk.fired = false) (moving : s.clock.state ≠ .stopped)
    (free : x.drives = true → s.lines[i].group = none) : s.ownTallySet tk a =
      acceptWith (Reply.wideThen (s.clock.frame + 1) 0) (s.setLine i { s.lines[i] with pending := some x }) := by
  rw [ownTallySet_allowed read (fun _ => moving) free, (running_iff s).mpr moving, scanned]
  rfl

theorem ownTallySet_applies (read : readTally a = some (i, x)) (moving : x.drives = true → s.clock.state ≠ .stopped)
    (free : x.drives = true → s.lines[i].group = none) (now : s.clock.state = .stopped ∨ tk.fired = true) :
    s.ownTallySet tk a = acceptWith (Reply.wideThen s.clock.frame 0) (s.actLine i x) := by
  have applies : (!s.running || tk.fired) = true := by
    rcases now with stopped | fired
    · rw [running_false stopped]
      rfl
    · rw [fired, Bool.or_true]
  rw [ownTallySet_allowed read moving free, if_pos applies]
  rfl

end

/-- A TALLY_SET row, by what its owner answers. -/
theorem exec_tallySet {c : Instr} {w : Nat} {n : SlotId} {t : Timing} {a : TallySetArgs} {s s' u : State} {code : ResultCode}
    {reply record} (row : orderRow c = some (w, n, t, .tallySet a)) (at_u : upTo w s = u) (ready : u.bus.ready = true) (atOnce : t.timing = 0)
    (answer : (orderTaken n t (.tallySet a) u).ownTallySet
      { slot := n, fired := false, again := false, late := false } a = (s', .completes code reply record)) :
    exec c s = .next (completeSlot n code reply record s') :=
  exec_orderRow_completes (o := .tallySet a) row (at_u ▸ ready) atOnce (at_u ▸ answer)

section
variable {c : Instr} {w : Nat} {n : SlotId} {t : Timing} {a : TallySetArgs} {i : LineId} {x : TallyAction} {s u : State}

theorem exec_tallySet_waits (row : orderRow c = some (w, n, t, .tallySet a)) (at_u : upTo w s = u) (ready : u.bus.ready = true)
    (atOnce : t.timing = 0) (moving : u.clock.state ≠ .stopped) (read : readTally a = some (i, x))
    (free : x.drives = true → u.lines[i].group = none) :
    exec c s = .next (completeSlot n .done
      (Reply.wideThen ((orderTaken n t (.tallySet a) u).clock.frame + 1) 0) none
      ((orderTaken n t (.tallySet a) u).setLine i
        { (orderTaken n t (.tallySet a) u).lines[i] with pending := some x })) := by
  rw [← orderTaken_clock n t (.tallySet a)] at moving
  rw [← orderTaken_lines n t (.tallySet a)] at free
  exact exec_tallySet row at_u ready atOnce (ownTallySet_waits read rfl moving free)

theorem exec_tallySet_bound (row : orderRow c = some (w, n, t, .tallySet a)) (at_u : upTo w s = u) (ready : u.bus.ready = true)
    (atOnce : t.timing = 0) (moving : u.clock.state ≠ .stopped) (read : readTally a = some (i, x))
    (drives : x.drives = true) (bound : u.lines[i].group ≠ none) :
    exec c s = .next (completeSlot n .bound Reply.zero none (orderTaken n t (.tallySet a) u)) := by
  rw [← orderTaken_clock n t (.tallySet a)] at moving
  rw [← orderTaken_lines n t (.tallySet a)] at bound
  exact exec_tallySet row at_u ready atOnce (ownTallySet_bound read drives moving bound)

theorem exec_tallySet_noClock (row : orderRow c = some (w, n, t, .tallySet a)) (at_u : upTo w s = u) (ready : u.bus.ready = true)
    (atOnce : t.timing = 0) (stopped : u.clock.state = .stopped) (read : readTally a = some (i, x))
    (drives : x.drives = true) :
    exec c s = .next (completeSlot n .noClock Reply.zero none (orderTaken n t (.tallySet a) u)) := by
  rw [← orderTaken_clock n t (.tallySet a)] at stopped
  exact exec_tallySet row at_u ready atOnce (ownTallySet_noClock read drives stopped)

theorem exec_tallySet_applies (row : orderRow c = some (w, n, t, .tallySet a)) (at_u : upTo w s = u) (ready : u.bus.ready = true)
    (atOnce : t.timing = 0) (stopped : u.clock.state = .stopped) (read : readTally a = some (i, x))
    (quiet : x.drives = false) :
    exec c s = .next (completeSlot n .done (Reply.wideThen (orderTaken n t (.tallySet a) u).clock.frame 0) none
      ((orderTaken n t (.tallySet a) u).actLine i x)) := by
  rw [← orderTaken_clock n t (.tallySet a)] at stopped
  have never {p : Prop} (h : x.drives = true) : p := absurd h (by rw [quiet]; decide)
  exact exec_tallySet row at_u ready atOnce (ownTallySet_applies read never never (.inl stopped))

theorem exec_tallySet_refused (row : orderRow c = some (w, n, t, .tallySet a)) (at_u : upTo w s = u) (ready : u.bus.ready = true)
    (atOnce : t.timing = 0) (bad : readTally a = none) :
    exec c s = .next (completeSlot n .badArg Reply.zero none (orderTaken n t (.tallySet a) u)) :=
  exec_tallySet row at_u ready atOnce (ownTallySet_refused bad)

end

/-- The seven actions as their rows write them. -/
theorem readTally_rows (i : LineId) :
    readTally { line := num i.val, action := 0, value := 0, invert := 0 } = some (i, .set) ∧
    readTally { line := num i.val, action := 1, value := 0, invert := 0 } = some (i, .clear) ∧
    readTally { line := num i.val, action := 2, value := 0, invert := 0 } = some (i, .toggle) ∧
    (∀ k : Word, k ≠ 0 → readTally { line := num i.val, action := 3, value := k, invert := 0 } = some (i, .pulse k.toNat)) ∧
    (∀ (g : GroupId) (b : Bool), readTally { line := num i.val, action := 4, value := num g.val, invert := flag b } =
      some (i, .bind g b)) ∧
    (∀ b : Bool, readTally { line := num i.val, action := 5, value := 0, invert := flag b } = some (i, .unbind b)) ∧
    (∀ b : Bool, readTally { line := num i.val, action := 6, value := flag b, invert := 0 } = some (i, .polarity b)) := by
  have line := val_num_line i
  refine ⟨readTally_of line rfl, readTally_of line rfl, readTally_of line rfl, fun k some => readTally_of line ?_,
    fun g b => readTally_of line ?_, fun b => readTally_of line ?_, fun b => readTally_of line ?_⟩
  · have range : readRange 1 65535 k = .some k.toNat := readRange_eq_some.mpr ⟨by bv_omega, rfl⟩
    simp [readTallyAction, range]
  · simp [readTallyAction, readFin_num (by decide) g, readFlag_flag]
  · simp [readTallyAction, readFlag_flag]
  · simp [readTallyAction, readFlag_flag]

/-- Settles O37: the actions that wait, are refused or apply, by the clock's state and the line's binding. -/
theorem tallyActionsFromASlot : Obligations.TallyActionsFromASlot := by
  refine ⟨fun w n t i s => ?_, fun w n t i s => ?_, fun c w n t a s row ready atOnce bad => ?_⟩
  · intro u
    have at_u : upTo w s = u := rfl
    clear_value u
    intro line kept bound order ready atOnce moving
    have waits {c : Instr} {a : TallySetArgs} {x : TallyAction} (row : orderRow c = some (w, n, t, .tallySet a))
        (read : readTally a = some (i, x)) (free : x.drives = true → u.lines[i].group = none) : kept c (.tallySet a) x :=
      exec_tallySet_waits row at_u ready atOnce moving read free
    have isBound {c : Instr} {a : TallySetArgs} {x : TallyAction} (row : orderRow c = some (w, n, t, .tallySet a))
        (read : readTally a = some (i, x)) (drives : x.drives = true) (taken : u.lines[i].group ≠ none) :
        bound c (.tallySet a) := exec_tallySet_bound row at_u ready atOnce moving read drives taken
    clear_value kept bound
    obtain ⟨set, clear, toggle, pulse, bind, unbind, polarity⟩ := readTally_rows i
    exact ⟨fun free => ⟨waits rfl set fun _ => free, waits rfl clear fun _ => free, waits rfl toggle fun _ => free,
        fun k some => waits rfl (pulse k some) fun _ => free⟩,
      fun taken => ⟨isBound rfl set rfl taken, isBound rfl clear rfl taken, isBound rfl toggle rfl taken,
        fun k some => isBound rfl (pulse k some) rfl taken⟩,
      fun g b => waits rfl (bind g b) nofun, fun b => waits rfl (unbind b) nofun, fun b => waits rfl (polarity b) nofun⟩
  · intro u
    have at_u : upTo w s = u := rfl
    clear_value u
    intro line refused applied order ready atOnce stopped
    have noClock {c : Instr} {a : TallySetArgs} {x : TallyAction} (row : orderRow c = some (w, n, t, .tallySet a))
        (read : readTally a = some (i, x)) (drives : x.drives = true) : refused c (.tallySet a) :=
      exec_tallySet_noClock row at_u ready atOnce stopped read drives
    have applies {c : Instr} {a : TallySetArgs} {x : TallyAction} (row : orderRow c = some (w, n, t, .tallySet a))
        (read : readTally a = some (i, x)) (quiet : x.drives = false) :
        applied c (.tallySet a) fun v l => l.act v.groupOpen x :=
      exec_tallySet_applies row at_u ready atOnce stopped read quiet
    clear_value refused applied
    obtain ⟨set, clear, toggle, pulse, bind, unbind, polarity⟩ := readTally_rows i
    exact ⟨⟨noClock rfl set rfl, noClock rfl clear rfl, noClock rfl toggle rfl, fun k some => noClock rfl (pulse k some) rfl⟩,
      fun g b => applies rfl (bind g b) rfl, fun b => applies rfl (unbind b) rfl, fun b => applies rfl (polarity b) rfl⟩
  · exact exec_tallySet_refused row rfl ready atOnce (readTally_refused (bad.imp_right readTallyAction_refused))

/-! ## Tally lines at the boundary (R38 to R41) -/

theorem drives_iff (x : TallyAction) : x.drives = true ↔ x = .set ∨ x = .clear ∨ x = .toggle ∨ ∃ k, x = .pulse k := by
  cases x <;> simp [TallyAction.drives]

theorem boundary_counted {l : Line} {k : Nat} (isOpen : GroupId → Bool) (pulse : l.pulse = some k) (more : 1 < k) :
    l.boundary isOpen = ({ l with pulse := some (k - 1) }.follow isOpen).actPending isOpen := by
  simp only [Line.boundary, pulse, if_neg (Nat.not_le.mpr more)]

theorem boundary_last {l : Line} {k : Nat} (isOpen : GroupId → Bool) (pulse : l.pulse = some k) (last : k ≤ 1) :
    l.boundary isOpen = { l with pulse := some 0 } := by
  simp only [Line.boundary, pulse, if_pos last]

theorem boundary_no_pulse {l : Line} (isOpen : GroupId → Bool) (pulse : l.pulse = none) :
    l.boundary isOpen = (l.follow isOpen).actPending isOpen := by
  simp only [Line.boundary, pulse]

/-- What a bound line keeps pending: the actions that drive no level. -/
theorem pending_undriven (x : Option TallyAction) : (x.filter fun a => !a.drives) = match x with
    | some (.bind h c) => some (.bind h c)
    | some (.unbind c) => some (.unbind c)
    | some (.polarity c) => some (.polarity c)
    | _ => none := by
  rcases x with _ | x
  · rfl
  · cases x <;> rfl

theorem tallyPulseDue_iff (s : State) (i : LineId) :
    s.isDue (.tallyPulseEnd i) = true ↔ s.clock.state ≠ .stopped ∧ s.lines[i].pulse = some 0 := by
  simp only [isDue, tallyPulseDue, Bool.and_eq_true, running_iff, decide_eq_true_eq]

/-- A TALLY_SET whose AT_FRAME entry fires is taken by its owner as fired. -/
theorem fire_tallySet {n : SlotId} {u s' : State} {e : Entry} {a : TallySetArgs} {code : ResultCode} {reply record}
    (held : u.entryOf n = some e) (single : e.again = none) (intact : u.slotIntact e = true)
    (order : readOrder (u.slotWord n 1) (u.slotWord n) = some (.tallySet a))
    (answer : ((removeEntry n u).putSlotState n SlotState.taken).ownTallySet
      { slot := n, fired := true, again := false, late := false } a = (s', .completes code reply record)) :
    fire n u = completeSlot n code reply record s' := by
  obtain rfl := entryOf_slot held
  rw [fire_intact held intact order, fireEntry_single single, carryOut_completes (o := .tallySet a) answer]
  rfl

/-- Settles O38: the seven actions, the boundary and the pulse's end by the line's pulse, and a TALLY_SET as the Schedule
fires it. -/
theorem tallyLinesAtTheBoundary : Obligations.TallyLinesAtTheBoundary := by
  refine ⟨fun isOpen l => ?_, fun w i s => ?_, fun w n s e a i x => ?_⟩
  · intro followed acted
    have followed_eq (x : Line) : followed x = x.follow isOpen := by
      cases h : x.group <;> simp only [followed, Line.follow, h]
    have acted_eq (x : Line) : acted x = x.actPending isOpen := by
      cases h : x.pending <;> simp only [acted, Line.actPending, h]
    refine ⟨rfl, rfl, rfl, fun _ => rfl, fun g b => ?_, fun _ => rfl, fun _ => rfl, fun pulse => ?_, fun k more pulse => ?_,
      fun k last pulse => boundary_last isOpen pulse last⟩
    · simp only [Line.act, pending_undriven] <;> rfl
    · rw [boundary_no_pulse isOpen pulse, followed_eq, acted_eq]
    · rw [boundary_counted isOpen pulse more, followed_eq, acted_eq]
  · intro u
    have row : exec (.tallyPulseEnd w i) s = .next (takeIfDue (.tallyPulseEnd i) u) := rfl
    clear_value u
    intro x followed
    have followed_eq : followed = x.follow u.groupOpen := by
      cases h : x.group <;> simp only [followed, Line.follow, h] <;> rfl
    have kept : followed.pending = x.pending := by
      rw [followed_eq, Line.follow]
      cases x.group <;> rfl
    refine ⟨fun moving ended => ?_, fun h => ?_⟩
    · have ends : exec (.tallyPulseEnd w i) s = .next (u.setLine i (followed.actPending u.groupOpen)) := by
        rw [row, takeIfDue_due ((tallyPulseDue_iff u i).mpr ⟨moving, ended⟩), followed_eq]
        rfl
      refine ⟨fun idle => ends.trans ?_, fun a waiting => ends.trans ?_⟩
      · simp only [Line.actPending, kept, idle]
      · simp only [Line.actPending, kept, waiting]
    · rw [row, takeIfDue_not_due (Bool.eq_false_iff.mpr fun due => ?_)]
      obtain ⟨moving, ended⟩ := (tallyPulseDue_iff u i).mp due
      exact h.elim moving fun other => other ended
  · intro u
    have row : exec (.scheduleFiring w n) s = .next (takeIfDue (.firing n) u) := rfl
    clear_value u
    intro v drives moving held single due first state kind check order read
    have fires : exec (.scheduleFiring w n) s = .next (fire n u) := by
      rw [row, takeIfDue_due (e := .firing n) (firingDue_of_first moving held due first)]
      rfl
    have taken : v = (removeEntry n u).putSlotState n SlotState.taken := rfl
    have clock : v.clock = u.clock := rfl
    have lines : v.lines = u.lines := rfl
    have completes {s' : State} {code : ResultCode} {reply : Reply}
        (answer : v.ownTallySet { slot := n, fired := true, again := false, late := false } a = (s', .completes code reply none)) :
        exec (.scheduleFiring w n) s = .next (completeSlot n code reply none s') := by
      obtain rfl := entryOf_slot held
      rw [fires, fire_tallySet held single ((slotIntact_iff u e).mpr ⟨state, kind, check⟩) (kind ▸ order) (taken ▸ answer)]
    clear_value v
    rw [← clock] at moving
    rw [← lines]
    refine ⟨fun allowed => completes ?_, fun bound driven => completes ?_⟩
    · refine ownTallySet_applies read (fun _ => moving) (fun driven => allowed.resolve_right fun quiet => ?_) (.inr rfl)
      exact quiet ((drives_iff x).mp driven)
    · exact ownTallySet_bound read ((drives_iff x).mpr driven) moving bound

end Sys2Proof.Machine
end

section
/-! SUPPORT. Rate ports as picture time passes (R28, R29, R33): the application of a pending setting, unit events and the ends
of pulses; and the cells of a time word (R57). -/

namespace Sys2Proof.Machine

open State

/-! ## Pending settings (R33) -/

/-- R33: the port's pending setting or off is owed at this boundary. -/
theorem applyOwed_iff (s : State) (i : PortId) : s.applyOwed i = true ↔
    s.clock.state ≠ .stopped ∧ s.ports[i].pending ≠ none ∧ s.ports[i].applyFrame = some s.clock.frame := by
  rw [applyOwed, Bool.and_eq_true, Bool.and_eq_true, running_iff, Option.isSome_iff_ne_none, decide_eq_true_eq, and_assoc]
  rfl

theorem applyOwed_false_iff (s : State) (i : PortId) : s.applyOwed i = false ↔
    ¬ (s.clock.state ≠ .stopped ∧ s.ports[i].pending ≠ none ∧ s.ports[i].applyFrame = some s.clock.frame) := by
  rw [← applyOwed_iff, Bool.not_eq_true]

theorem applied_setting {p : Port} {x : PortSetting} (f : FrameNo) (h : p.pending = some (.setting x)) :
    p.applied f = { active := some x, pending := none, applyFrame := none, anchor := f, cadenceFrame := 0, level := false
                    pulse := none, nextEvent := 0 } := by
  simp only [Port.applied, h, Port.anchorAt, Port.clearPending]

theorem applied_off {p : Port} (f : FrameNo) (h : p.pending = some .off) :
    p.applied f = { p with active := none, pending := none, applyFrame := none, level := false, pulse := none } := by
  simp only [Port.applied, h, Port.clearPending]

theorem applyPort_setting {s : State} {i : PortId} {x : PortSetting} (h : s.ports[i].pending = some (.setting x)) :
    applyPort .cadence i s = State.rateNotice
      ((s.setPort i { active := some x, pending := none, applyFrame := none, anchor := s.clock.frame,
                      cadenceFrame := 0, level := false, pulse := none, nextEvent := 0 }).handReport
        { position := s.here, urgent := false
          body := .portApplied i .active .cadence s.clock.frame (x.width (rateTicks s.clock.rate)) }) := by
  have made := applied_setting s.frame h
  simp only [applyPort, made, State.report, appliedBody, setPort_own]
  rfl

theorem applyPort_off {s : State} {i : PortId} (h : s.ports[i].pending = some .off) :
    applyPort .cadence i s = State.rateNotice
      ((s.setPort i { s.ports[i] with active := none, pending := none, applyFrame := none, level := false
                                      pulse := none }).handReport
        { position := s.here, urgent := false
          body := .portApplied i .off .cadence s.ports[i].anchor 0 }) := by
  have made := applied_off s.frame h
  simp only [applyPort, made, State.report, appliedBody, setPort_own]
  rfl

/-! ## Unit events and pulses (R28, R29) -/

theorem eventTick_eq (m frames events j : Nat) : eventTick m frames events j = (j * (frames * m) + events - 1) / events := rfl

theorem eventDue_iff {s : State} {i : PortId} {x : PortSetting} (active : s.ports[i].active = some x) :
    s.isDue (.unitEvent i) = true ↔ (s.clock.state ≠ .stopped ∧ s.ports[i].nextEvent < x.events ∧
      x.phase + (s.ports[i].nextEvent * (x.frames * rateTicks s.clock.rate) + x.events - 1) / x.events =
        s.ports[i].cadenceFrame * rateTicks s.clock.rate + s.clock.tick ∧ s.mayCut = false) ∧
      ¬ (s.ports[i].pending ≠ none ∧ s.ports[i].applyFrame = some s.clock.frame) := by
  simp only [isDue, eventDue, active, Bool.and_eq_true, running_iff, Bool.not_eq_true', applyOwed_false_iff, decide_eq_true_eq]
  simp only [eventTick_eq, ticks]
  tauto

theorem eventDue_inactive {s : State} {i : PortId} (inactive : s.ports[i].active = none) :
    s.isDue (.unitEvent i) = false := by
  simp only [isDue, eventDue, inactive, Bool.false_and]

theorem event_pulse {p : Port} {x : PortSetting} {k : Nat} (m : Nat) (active : p.active = some x) (shape : x.shape = .pulse k) :
    p.event m = { p with nextEvent := p.nextEvent + 1, level := true
                         pulse := some (min k (x.frames * m / x.events - 1)) } := by
  simp only [Port.event, active, shape, PortSetting.width, PortSetting.period]

theorem event_toggle {p : Port} {x : PortSetting} (m : Nat) (active : p.active = some x) (shape : x.shape = .toggle) :
    p.event m = { p with nextEvent := p.nextEvent + 1, level := !p.level } := by
  simp only [Port.event, active, shape]

theorem event_gate {p : Port} {x : PortSetting} {g : Nat} (m : Nat) (active : p.active = some x) (shape : x.shape = .gate g) :
    p.event m = { p with
      nextEvent := p.nextEvent + 1
      level := if p.nextEvent = 0 then true else if p.nextEvent = g then false else p.level } := by
  simp only [Port.event, active, shape]
  split_ifs <;> rfl

theorem pulseDue_iff (s : State) (i : PortId) : s.isDue (.pulseEnd i) = true ↔
    (s.clock.state ≠ .stopped ∧ s.ports[i].pulse = some 0) ∧ s.mayCut = false := by
  simp only [isDue, pulseDue, Bool.and_eq_true, running_iff, decide_eq_true_eq, Bool.not_eq_true']

/-- Settles O36: a pending setting by what is owed at the boundary, a unit event by its shape, and the end of a pulse. -/
theorem portsApplySettingsAndMakeEvents : Obligations.PortsApplySettingsAndMakeEvents := by
  refine ⟨fun w i s => ?_, fun w i s => ?_⟩
  · intro u
    have row : exec (.portSettingApply w i) s = .next (takeIfDue (.portApply i) u) := rfl
    clear_value u
    intro owed
    have owed_iff (j : PortId) : u.applyOwed j = true ↔ owed j := applyOwed_iff u j
    clear_value owed
    have due_iff : u.isDue (.portApply i) = true ↔ owed i ∧ ∀ j, j < i → ¬ owed j := by
      simp only [isDue, applyDue_iff, ← owed_iff, Bool.not_eq_true]
    refine ⟨fun h => ?_, fun x mine first set => ?_, fun mine first off => ?_⟩
    · rw [row, takeIfDue_not_due (Bool.eq_false_iff.mpr fun due => ?_)]
      obtain ⟨mine, first⟩ := due_iff.mp due
      exact h.elim (absurd mine) fun ⟨j, lower, theirs⟩ => first j lower theirs
    · rw [row, takeIfDue_due (due_iff.mpr ⟨mine, first⟩), takeEvent, applyPort_setting set]
    · rw [row, takeIfDue_due (due_iff.mpr ⟨mine, first⟩), takeEvent, applyPort_off off]
  · intro u
    have event : exec (.unitEvent w i) s = .next (takeIfDue (.unitEvent i) u) := rfl
    have pulse : exec (.portPulseEnd w i) s = .next (takeIfDue (.pulseEnd i) u) := rfl
    clear_value u
    intro p m
    refine ⟨fun x active => ?_, fun inactive => ?_, fun moving ended waits => ?_, fun h => ?_, fun j => ?_⟩
    · intro due owed
      have due_iff : u.isDue (.unitEvent i) = true ↔ due ∧ ¬ owed := eventDue_iff active
      clear_value due owed
      refine ⟨fun isDue notOwed => ?_, fun h => ?_⟩
      · have made : exec (.unitEvent w i) s = .next (u.setPort i (p.event m)) := by
          rw [event, takeIfDue_due (due_iff.mpr ⟨isDue, notOwed⟩)]
          rfl
        refine ⟨fun k shape => ?_, fun shape => ?_, fun g shape => ?_⟩
        · rw [made, event_pulse m active shape]
        · rw [made, event_toggle m active shape]
        · rw [made, event_gate m active shape]
      · rw [event, takeIfDue_not_due (Bool.eq_false_iff.mpr fun isDue => ?_)]
        obtain ⟨isDue, notOwed⟩ := due_iff.mp isDue
        exact h.elim (absurd isDue) notOwed
    · rw [event, takeIfDue_not_due (eventDue_inactive inactive)]
    · rw [pulse, takeIfDue_due ((pulseDue_iff u i).mpr ⟨⟨moving, ended⟩, waits⟩)]
      rfl
    · rw [pulse, takeIfDue_not_due (Bool.eq_false_iff.mpr fun due => ?_)]
      obtain ⟨⟨_, ended⟩, waits⟩ := (pulseDue_iff u i).mp due
      exact h.elim (absurd ended) fun may => Bool.noConfusion (waits.symm.trans may)
    · exact Vector.getElem_map _ _

/-! ## Cells (R57) -/

theorem cellDue_iff {s : State} {o : OutputId} {x : SentWord} (word : s.outputs[o].word = some x) :
    s.isDue (.cellStart o) = true ↔ s.clock.state ≠ .stopped ∧ s.outputs[o].boundaryOwed = false ∧ x.nextCell < 128 ∧
      (x.nextCell * (rateSpan s.clock.rate * rateTicks s.clock.rate) + 127) / 128 =
        s.outputs[o].wordFrame * rateTicks s.clock.rate + s.clock.tick ∧ s.mayCut = false := by
  simp only [isDue, cellDue, word, Bool.and_eq_true, running_iff, Bool.not_eq_true', decide_eq_true_eq, and_assoc]
  simp only [eventTick_eq, ticks, span, Nat.add_succ_sub_one]

/-- R57: a bit's first cell inverts the line, its second for a 1. -/
theorem cellLevel_eq (bits : BitVec 64) (c : Nat) (level : Bool) :
    cellLevel bits c level = if c % 2 = 0 ∨ bits.getLsbD (c / 2) = true then !level else level := by
  rw [cellLevel]
  split_ifs <;> simp_all

theorem cellStart_eq {s : State} {o : OutputId} {x : SentWord} (word : s.outputs[o].word = some x) :
    cellStart o s = s.setOutput o { s.outputs[o] with
      level := cellLevel x.bits x.nextCell s.outputs[o].level, word := some { x with nextCell := x.nextCell + 1 } } := by
  simp only [cellStart, word]

/-- Settles O41: a cell that is due begins with the level of its bit, and no other begins. -/
theorem cellsCarryTheBiphaseCode : Obligations.CellsCarryTheBiphaseCode := by
  intro w o s x u
  have row : exec (.cellStart w o) s = .next (takeIfDue (.cellStart o) u) := rfl
  clear_value u
  intro out m due word
  have due_iff : u.isDue (.cellStart o) = true ↔ due := cellDue_iff word
  clear_value due
  refine ⟨fun isDue => ?_, fun notDue => ?_⟩
  · rw [row, takeIfDue_due (due_iff.mpr isDue), takeEvent, cellStart_eq word, cellLevel_eq]
  · rw [row, takeIfDue_not_due (Bool.eq_false_iff.mpr fun isDue => notDue (due_iff.mp isDue))]

end Sys2Proof.Machine
end

section
/-! SUPPORT. The time word outputs: OUTPUT_SET and USER_TABLE (R67, R68), and what an output does at a word boundary (R56,
R61 to R66, R68). -/

namespace Sys2Proof.Machine

open State

/-! ## OUTPUT_SET's arguments (R60, R68) -/

theorem readOutputSet_eq_none (a : OutputSetArgs) : readOutputSet a = none ↔
    (3 < a.output.toNat ∨ 2 < a.mode.toNat ∨ a.burst = 0 ∨ 15 < a.burst.toNat ∨ 15 < a.wake.toNat ∨ 255 < a.grace.toNat ∨
      a.attempts = 0 ∨ 15 < a.attempts.toNat ∨ a.verify = 0 ∨ 255 < a.verify.toNat ∨
      (a.group ≠ 0xFFFF ∧ 7 < a.group.toNat) ∨ 15 < a.idleIndex.toNat ∨ 15 < a.openIndex.toNat) := by
  refine (bind_eq_none_of fun _ => bind_eq_none_of fun _ => bind_eq_none_of fun _ => bind_eq_none_of fun _ =>
    bind_eq_none_of fun _ => bind_eq_none_of fun _ => bind_eq_none_of fun _ => bind_eq_none_of fun _ =>
    bind_eq_none_of fun _ => bind_eq_none_of (p := False) fun _ => by simp).trans ?_
  rw [readFin_eq_none, readFin_eq_none, readFin_eq_none, readOptFin_eq_none, readMode, readCode_eq_none]
  simp only [readRange_eq_none]
  have zero (w : Word) : w = 0 ↔ w.toNat = 0 := by bv_omega
  simp only [zero]
  by_cases absent : a.group = 0xFFFF <;> simp only [ne_eq, absent, not_true, not_false_iff, false_and, true_and, false_or, or_false] <;> omega

theorem readOutputSet_fields {a : OutputSetArgs} {o : OutputId} {x : OutputSettings} (h : readOutputSet a = some (o, x)) :
    o.val = a.output.toNat ∧ x.mode = (if a.mode = 0 then .off else if a.mode = 1 then .continuous else .burst) ∧
      x.burst = a.burst.toNat ∧ x.wake = a.wake.toNat ∧ x.grace = a.grace.toNat ∧ x.attempts = a.attempts.toNat ∧
      x.verify = a.verify.toNat ∧ (x.group = none ↔ a.group = 0xFFFF) ∧
      (∀ g, x.group = some g → g.val = a.group.toNat) ∧ x.idleIndex.val = a.idleIndex.toNat ∧
      x.openIndex.val = a.openIndex.toNat := by
  simp only [readOutputSet, Option.bind_eq_bind, Option.bind_eq_some_iff, readFin_eq_some, readRange_eq_some, readOptFin_eq_some,
    Option.pure_def, Option.some.injEq, Prod.mk.injEq] at h
  obtain ⟨_, output, mode, mode_read, _, ⟨_, rfl⟩, _, ⟨_, rfl⟩, _, ⟨_, rfl⟩, _, ⟨_, rfl⟩, _, ⟨_, rfl⟩, group,
    ⟨absent, present⟩, _, idle, _, open_, rfl, rfl⟩ := h
  exact ⟨output, readCode_eq_some mode_read, rfl, rfl, rfl, rfl, rfl, absent, present, idle, open_⟩

/-! ## OUTPUT_SET and USER_TABLE (R66 to R68) -/

section
variable {a : OutputSetArgs} {o : OutputId} {x : OutputSettings} {s : State}

theorem ownOutputSet_refused (bad : readOutputSet a = none) : s.ownOutputSet a = refuse .badArg s := by
  simp only [ownOutputSet, bad]

theorem ownOutputSet_busy (read : readOutputSet a = some (o, x)) (run : s.runs[o] ≠ none) :
    s.ownOutputSet a = refuse .busy s := by
  have some : s.runs[o].isSome = true := Option.isSome_iff_ne_none.mpr run
  simp only [ownOutputSet, read, some, if_true]

theorem ownOutputSet_stopped (read : readOutputSet a = some (o, x)) (idle : s.runs[o] = none) (stopped : s.clock.state = .stopped) :
    s.ownOutputSet a = acceptWith (Reply.wideThen s.clock.frame 0) (s.setOutput o (Output.store s.outputs[o] x)) := by
  have none : s.runs[o].isSome = false := by rw [idle]; rfl
  simp only [ownOutputSet, read, none, running_false stopped]
  rfl

theorem beginBoundary_eq (moving : s.clock.state ≠ .stopped) :
    beginBoundary o s = if s.outputs[o].boundaryOwed = true then wordBoundary o s else s := by
  simp only [beginBoundary, wordDue, (running_iff s).mpr moving, Bool.true_and]

theorem ownOutputSet_kept (read : readOutputSet a = some (o, x)) (idle : s.runs[o] = none) (moving : s.clock.state ≠ .stopped)
    {b : State} (begun : (if s.outputs[o].boundaryOwed = true then wordBoundary o s else s) = b) :
    s.ownOutputSet a = acceptWith
      (Reply.wideThen (b.clock.frame + BitVec.ofNat 32 (rateSpan b.clock.rate - b.outputs[o].wordFrame)) 0)
      (b.setOutput o { b.outputs[o] with pending := some x }) := by
  have none : s.runs[o].isSome = false := by rw [idle]; rfl
  simp only [ownOutputSet, read, none, (running_iff s).mpr moving, beginBoundary_eq moving, begun]
  rfl

theorem exec_outputSet {w : Nat} {n : SlotId} {t : Timing} {s' : State} {code : ResultCode} {reply record}
    (ready : (upTo w s).bus.ready = true) (atOnce : t.timing = 0)
    (answer : (orderTaken n t (.outputSet a) (upTo w s)).ownOutputSet a = (s', .completes code reply record)) :
    exec (.outputSet w n t a) s = .next (completeSlot n code reply record s') :=
  exec_orderRow_completes (o := .outputSet a) rfl ready atOnce answer

end

theorem all_bytes_iff (bytes : Vector Word 16) :
    bytes.toList.all (fun w => decide (w.toNat ≤ 255)) = true ↔ ∀ k : Fin 16, bytes[k].toNat ≤ 255 := by
  rw [List.all_eq_true]
  simp only [decide_eq_true_eq, Vector.mem_toList_iff, Vector.mem_iff_getElem]
  refine ⟨fun h k => h _ ⟨k.val, k.isLt, rfl⟩, ?_⟩
  rintro h _ ⟨i, hi, rfl⟩
  exact h ⟨i, hi⟩

theorem ownUserTable_taken {bytes : Vector Word 16} {s : State} (small : ∀ k : Fin 16, bytes[k].toNat ≤ 255) :
    s.ownUserTable bytes = accept { s with userBits := bytes.map fun x => x.setWidth 8 } := by
  simp only [ownUserTable, readUserTable, if_pos ((all_bytes_iff bytes).mpr small)]

theorem ownUserTable_refused {bytes : Vector Word 16} {s : State} (large : ∃ k : Fin 16, 255 < bytes[k].toNat) :
    s.ownUserTable bytes = refuse .badArg s := by
  obtain ⟨k, large⟩ := large
  have some : ¬ bytes.toList.all (fun w => decide (w.toNat ≤ 255)) = true := fun all =>
    absurd ((all_bytes_iff bytes).mp all k) (Nat.not_le.mpr large)
  simp only [ownUserTable, readUserTable, if_neg some]

theorem exec_userTable {w : Nat} {n : SlotId} {t : Timing} {bytes : Vector Word 16} {s s' : State} {code : ResultCode}
    {reply record} (ready : (upTo w s).bus.ready = true) (atOnce : t.timing = 0)
    (answer : (orderTaken n t (.userTable bytes) (upTo w s)).ownUserTable bytes = (s', .completes code reply record)) :
    exec (.userTable w n t bytes) s = .next (completeSlot n code reply record s') :=
  exec_orderRow_completes (o := .userTable bytes) rfl ready atOnce answer

/-- Settles O39: OUTPUT_SET's arguments, then the two orders by their checks and the clock's state. -/
theorem outputAndUserTableOrders : Obligations.OutputAndUserTableOrders := by
  refine ⟨fun a => ⟨readOutputSet_eq_none a, fun o x => readOutputSet_fields⟩, fun w n t a bytes s ready atOnce => ⟨?_, ?_⟩⟩
  · intro v
    have completes {s' : State} {code : ResultCode} {reply : Reply}
        (answer : v.ownOutputSet a = (s', .completes code reply none)) :
        exec (.outputSet w n t a) s = .next (completeSlot n code reply none s') := exec_outputSet ready atOnce answer
    clear_value v
    refine ⟨fun bad => completes (ownOutputSet_refused bad), fun o x read => ⟨fun run => completes (ownOutputSet_busy read run),
      fun idle stopped => completes (ownOutputSet_stopped read idle stopped), fun idle moving => ?_⟩⟩
    intro b
    have begun : (if v.outputs[o].boundaryOwed = true then wordBoundary o v else v) = b := rfl
    clear_value b
    exact completes (ownOutputSet_kept read idle moving begun)
  · intro v
    have completes {s' : State} {code : ResultCode} (answer : v.ownUserTable bytes = (s', .completes code Reply.zero none)) :
        exec (.userTable w n t bytes) s = .next (completeSlot n code Reply.zero none s') := exec_userTable ready atOnce answer
    clear_value v
    exact ⟨fun small => completes (ownUserTable_taken small), fun large => completes (ownUserTable_refused large)⟩

/-! ## The four steps of a word boundary (R61) -/

theorem finishWord_eq (o : OutputId) (s : State) : finishWord o s =
    if s.outputs[o].word ≠ none ∧ s.outputs[o].state = .bursting ∧ s.outputs[o].finish.wordsLeft = some 0 then
      burstEnd o (s.setOutput o s.outputs[o].finish)
    else s.setOutput o s.outputs[o].finish := by
  simp only [finishWord, Bool.and_eq_true, Option.isSome_iff_ne_none, beq_iff_eq, and_assoc]

theorem requestStarts_iff (x : Output) (now : FrameNo) :
    x.requestStarts now = true ↔ x.request ≠ none ∧ x.request ≠ some now := by
  cases h : x.request <;> simp [Output.requestStarts, h]

theorem advanceOutput_eq (o : OutputId) (s : State) {starts : Prop} [Decidable starts] {z : Output}
    (starts_iff : starts ↔ s.outputs[o].request ≠ none ∧ s.outputs[o].request ≠ some s.clock.frame)
    (moved : (if starts then s.outputs[o].startBurst else s.outputs[o].nextState) = z) : advanceOutput o s =
      if starts ∧ s.outputs[o].state = .off then burstCut o (s.setOutput o z)
      else if s.outputs[o].state ≠ .bursting ∧ z.state = .bursting then burstBegun o (s.setOutput o z).rosterFirst
      else s.setOutput o z := by
  have same : s.outputs[o].requestStarts s.frame = true ↔ starts := (requestStarts_iff _ _).trans starts_iff.symm
  simp only [advanceOutput, Bool.and_eq_true, beq_iff_eq, bne_iff_ne, same, moved]

theorem sends_iff (x : OutputState) :
    x.sends = true ↔ x = .continuous ∨ x = .waking ∨ x = .bursting ∨ x = .grace := by
  cases x <;> simp [OutputState.sends]

theorem wordBytes_eq (s : State) (o : OutputId) {openTake : Option Take}
    (h : (s.outputs[o].settings.group.bind fun g => s.groups[g].current) = openTake) : s.wordBytes o =
      (s.userBits[if openTake.isSome then s.outputs[o].settings.openIndex else s.outputs[o].settings.idleIndex],
        BitVec.ofNat 8 ((openTake.map fun k => k.number).getD 0)) := by
  subst h
  simp only [wordBytes]
  cases s.outputs[o].settings.group.bind fun g => s.groups[g].current <;> rfl

theorem beginWord_eq (o : OutputId) (s : State) : beginWord o s = s.setOutput o
    (if s.outputs[o].state.sends then
      { s.outputs[o] with boundaryOwed := false, word := some { bits := s.composed o, nextCell := 0 } }
    else { s.outputs[o] with boundaryOwed := false, level := false }) := by
  rw [beginWord]
  split_ifs <;> rfl

theorem wordDue_iff (s : State) (o : OutputId) :
    s.isDue (.wordBoundary o) = true ↔ s.clock.state ≠ .stopped ∧ s.outputs[o].boundaryOwed = true := by
  simp only [isDue, wordDue, Bool.and_eq_true, running_iff]

/-! ## What an output does at each step (R61 to R63, R68) -/

section
variable {x : Output}

theorem finish_no_word (h : x.word = none) : x.finish = x := by simp [Output.finish, h]

theorem finish_word (h : x.word ≠ none) : x.finish = { x with
    word := none, wordsLeft := if x.state.counts then x.wordsLeft.map (fun n => n - 1) else x.wordsLeft } := by
  simp only [Output.finish, Option.isSome_iff_ne_none.mpr h, if_true]

theorem settle_no_setting (h : x.pending = none) : x.settle = x := by simp [Output.settle, h]

theorem settle_setting {new : OutputSettings} (h : x.pending = some new) : x.settle = x.applySetting new := by
  simp [Output.settle, h]

theorem applySetting_cut {new : OutputSettings} (h : x.state = .waking ∨ x.state = .bursting) :
    (x.applySetting new).cut = false := by
  obtain ⟨settings, _⟩ := new
  rcases h with h | h <;> cases settings <;> simp [Output.applySetting, h, OutputState.counts, nextMode]

theorem finish_uncounted (h : x.word ≠ none) (state : x.state = .off ∨ x.state = .silent ∨ x.state = .continuous) :
    x.finish = { x with word := none } := by
  rw [finish_word h]
  rcases state with state | state | state <;> simp [state, OutputState.counts]

theorem finish_counted {k : Nat} (h : x.word ≠ none) (state : x.state = .waking ∨ x.state = .bursting ∨ x.state = .grace)
    (left : x.wordsLeft = some k) : x.finish = { x with word := none, wordsLeft := some (k - 1) } := by
  rw [finish_word h]
  rcases state with state | state | state <;> simp [state, left, OutputState.counts]

theorem settle_eq {new : OutputSettings} (h : x.pending = some new) : x.settle = { x with
    settings := new, pending := none,
    state := match new.mode with
      | .off => .off
      | .continuous => .continuous
      | .burst => if x.state = .grace then .grace else .silent
    wordsLeft := if x.state = .grace ∧ new.mode = .burst then x.wordsLeft else none
    cut := x.settle.cut } := by
  rw [settle_setting h]
  obtain ⟨mode, _⟩ := new
  cases mode with
  | off => simp [Output.applySetting, nextMode]
  | continuous => simp [Output.applySetting, nextMode]
  | burst => by_cases grace : x.state = .grace <;> simp [Output.applySetting, nextMode, grace]

section
variable (left : x.wordsLeft = some 0)
include left

theorem nextState_woken (state : x.state = .waking) (whole : x.cut = false) :
    x.nextState = { x with state := .bursting, wordsLeft := some x.settings.burst } := by
  simp [Output.nextState, left, state, whole]

theorem nextState_waking_cut (state : x.state = .waking) (cut : x.cut = true) :
    x.nextState = { x with state := .silent, wordsLeft := none, cut := false } := by
  simp [Output.nextState, left, state, cut]

theorem nextState_continuous (state : x.state = .bursting) (mode : x.settings.mode = .continuous) :
    x.nextState = { x with state := .continuous, wordsLeft := none, cut := false } := by
  simp [Output.nextState, left, state, mode]

theorem nextState_bursting_cut (state : x.state = .bursting) (mode : x.settings.mode = .burst) (cut : x.cut = true) :
    x.nextState = { x with state := .silent, wordsLeft := none, cut := false } := by
  simp [Output.nextState, left, state, mode, cut]

theorem nextState_grace (state : x.state = .bursting) (mode : x.settings.mode = .burst) (whole : x.cut = false)
    (grace : 1 ≤ x.settings.grace) : x.nextState = { x with state := .grace, wordsLeft := some x.settings.grace } := by
  simp [Output.nextState, left, state, mode, whole, Nat.pos_iff_ne_zero.mp grace, Nat.one_le_iff_ne_zero]

theorem nextState_no_grace (state : x.state = .bursting) (mode : x.settings.mode = .burst) (whole : x.cut = false)
    (grace : x.settings.grace = 0) : x.nextState = { x with state := .silent, wordsLeft := none } := by
  simp [Output.nextState, left, state, mode, whole, grace]

theorem nextState_grace_ends (state : x.state = .grace) : x.nextState = { x with state := .silent, wordsLeft := none } := by
  simp [Output.nextState, left, state]

end

theorem startBurst_at_once (state : x.state = .continuous ∨ x.state = .grace) :
    x.startBurst = { x with request := none, state := .bursting, wordsLeft := some x.settings.burst } := by
  rcases state with state | state <;> simp [Output.startBurst, state]

theorem startBurst_silent (state : x.state = .silent) : x.startBurst =
    if 1 ≤ x.settings.wake then { x with request := none, state := .waking, wordsLeft := some x.settings.wake }
    else { x with request := none, state := .bursting, wordsLeft := some x.settings.burst } := by
  simp [Output.startBurst, state]

theorem startBurst_off (state : x.state = .off) : x.startBurst = { x with request := none } := by
  simp [Output.startBurst, state]

theorem nextState_counting (h : x.wordsLeft ≠ some 0) : x.nextState = x := by simp [Output.nextState, h]

end

/-- Settles O40: a word boundary is its four steps, and each step by the output's state. -/
theorem outputsAtAWordBoundary : Obligations.OutputsAtAWordBoundary := by
  refine ⟨fun w o s => ?_, fun x => ?_⟩
  · intro u
    have row : exec (.wordBoundary w o) s = .next (takeIfDue (.wordBoundary o) u) := rfl
    clear_value u
    intro x finished a
    have first : finishWord o u = a := finishWord_eq o u
    clear_value a
    intro b
    have second : settleOutput o a = b := rfl
    clear_value b
    intro y starts z c d
    have third : advanceOutput o b = d := advanceOutput_eq o b Iff.rfl rfl
    clear_value d
    intro q sends openTake user word
    have sends_eq : d.outputs[o].state.sends = true ↔ sends := sends_iff _
    have composed : d.composed o = word := by
      simp only [State.composed, wordBytes_eq d o (openTake := openTake) rfl]
      rfl
    have last : beginWord o d = d.setOutput o (if sends then
        { q with boundaryOwed := false, word := some { bits := word, nextCell := 0 } }
        else { q with boundaryOwed := false, level := false }) := by
      rw [beginWord_eq, composed]
      exact congrArg _ (if_congr sends_eq rfl rfl)
    refine ⟨fun moving owed => ⟨?_, ?_⟩, fun h => ?_⟩
    · rw [row, takeIfDue_due ((wordDue_iff u o).mpr ⟨moving, owed⟩)]
      rfl
    · rw [wordBoundary, first, second, third, last]
    · rw [row, takeIfDue_not_due (Bool.eq_false_iff.mpr fun due => ?_)]
      obtain ⟨moving, owed⟩ := (wordDue_iff u o).mp due
      exact h.elim moving fun other => Bool.noConfusion (other.symm.trans owed)
  · refine ⟨finish_no_word, finish_uncounted, fun k => finish_counted, settle_no_setting, fun new => settle_eq,
      fun new setting busy => ?_, fun left => ?_, nextState_counting, startBurst_at_once, startBurst_silent, startBurst_off⟩
    · rw [settle_setting setting]
      exact applySetting_cut busy
    · exact ⟨nextState_woken left, nextState_waking_cut left, nextState_continuous left, nextState_bursting_cut left,
        nextState_grace left, nextState_no_grace left, nextState_grace_ends left⟩

end Sys2Proof.Machine
end

section
/-! SUPPORT. The time word inputs' ends of words (R76 to R80), the entry into SILENT (R86, R96), and how a valid word moves a
device's record (R86 to R95). -/

namespace Sys2Proof.Machine

open State

/-! ## Line quiet and arrivals (R76 to R80) -/

theorem quietDue_reached {x : Input} (enabled : x.enable = true) (reached : x.since = 23000) (aligned : x.aligned = true) :
    x.quietDue = true := by
  simp [Input.quietDue, enabled, reached, aligned, quietTicks]

theorem quietDue_disabled {x : Input} (disabled : x.enable = false) : x.quietDue = false := by
  simp [Input.quietDue, disabled]

theorem arrivalDue_decided {x : Input} {b : LastBit} {z : Bool} (enabled : x.enable = true) (last : x.lastBit = some b)
    (decided : b.value = some z) (elapsed : b.length ≤ b.elapsed) : x.arrivalDue = true := by
  simp [Input.arrivalDue, enabled, last, decided, elapsed]

theorem received_eq {x : Input} {b : LastBit} {z : Bool} (last : x.lastBit = some b) (decided : b.value = some z) :
    x.received = wordOfBits (x.bits ++ [z]) := by
  simp [Input.received, last, decided]

theorem wordArrival_unbound {i : InputId} {s : State} (unbound : s.inputs[i].bound = none) :
    wordArrival i s = s.setInput i s.inputs[i].nextWord := by
  simp only [wordArrival, unbound]

theorem wordArrival_bad {i : InputId} {s : State} (bound : s.inputs[i].bound ≠ none)
    (bad : wordValid s.inputs[i].received = false) : wordArrival i s = s.setInput i s.inputs[i].nextWord.countBad := by
  obtain ⟨d, bound⟩ := Option.ne_none_iff_exists'.mp bound
  simp only [wordArrival, bound, bad]
  rfl

theorem wordArrival_valid {i : InputId} {d : DeviceId} {s : State} (bound : s.inputs[i].bound = some d)
    (valid : wordValid s.inputs[i].received = true) : wordArrival i s =
      rosterWord d (readWord s.inputs[i].received) s.inputs[i].delay (s.setInput i s.inputs[i].nextWord).rosterFirst := by
  simp only [wordArrival, bound, valid, if_true]

theorem countBad_bound {x : Input} (bound : x.bound ≠ none) :
    x.countBad = { x with badWords := min 65535 (x.badWords + 1) } := by
  simp only [Input.countBad, Option.isSome_iff_ne_none.mpr bound, if_true, bump]

/-- Settles O44: line quiet loses the word, and an arrival is discarded, counted or handed on by the input's device. -/
theorem quietAndArrivalsEndWords : Obligations.QuietAndArrivalsEndWords := by
  refine ⟨fun w i s => ?_, fun w i s b z => ?_⟩
  · intro u
    have row : exec (.lineQuiet w i) s = .next (takeIfDue (.lineQuiet i) u) := rfl
    clear_value u
    intro x
    refine ⟨fun enabled reached aligned => ?_, fun h => ?_⟩
    · rw [row, takeIfDue_due (e := .lineQuiet i) (quietDue_reached enabled reached aligned), takeEvent, lineQuiet, lose_eq]
    · refine row.trans (congrArg _ (takeIfDue_not_due (e := .lineQuiet i) ?_))
      exact h.elim quietDue_disabled quietDue_early
  · intro u
    have row : exec (.timeWordArrival w i) s = .next (takeIfDue (.wordArrival i) u) := rfl
    clear_value u
    intro x word y enabled last decided elapsed
    have due : exec (.timeWordArrival w i) s = .next (wordArrival i u) := by
      rw [row, takeIfDue_due (e := .wordArrival i) (arrivalDue_decided enabled last decided elapsed)]
      rfl
    have received : x.received = word := received_eq last decided
    refine ⟨fun unbound => ?_, fun bound bad => ?_, fun d bound valid => ?_⟩
    · rw [due, wordArrival_unbound unbound]
      rfl
    · rw [due, wordArrival_bad bound (received ▸ bad), countBad_bound (x := x.nextWord) bound]
      rfl
    · rw [due, wordArrival_valid bound (received ▸ valid)]
      exact congrArg (fun a => Host.Outcome.next (rosterWord d (readWord a) x.delay (u.setInput i y).rosterFirst)) received

/-! ## Moves of a record with their reports (R81, R139) -/

theorem moveDevice_quiet {s : State} {d : DeviceId} {previous : DeviceState} {r : Device} {reason : DeviceReason}
    {offset : Option Int} {extra : BitVec 32} (quiet : ¬ (r.state = .adrift ∨ r.state = .silent)) :
    s.moveDevice d previous r reason offset extra = (s.setDevice d (some r)).handReport
      { position := s.here, urgent := false
        body := .deviceState d (some previous) (some r.state) reason r.strikes offset extra } := by
  simp only [moveDevice, if_neg quiet]
  rfl

theorem moveDevice_suspect {s : State} {d : DeviceId} {previous : DeviceState} {r : Device} {reason : DeviceReason}
    {offset : Option Int} {extra : BitVec 32} (suspect : r.state = .adrift ∨ r.state = .silent) :
    s.moveDevice d previous r reason offset extra = State.suspectNotice ((s.setDevice d (some r)).handReport
      { position := s.here, urgent := false
        body := .deviceState d (some previous) (some r.state) reason r.strikes offset extra }) d := by
  simp only [moveDevice, if_pos suspect]
  rfl

/-! ## Silence (R86, R96) -/

theorem heard_iff (x : DeviceState) : x.heard = true ↔ x = .acquiring ∨ x = .tracking ∨ x = .adrift ∨ x = .mismatch := by
  cases x <;> simp [DeviceState.heard]

theorem silent_iff {s : State} {d : DeviceId} {x : Device} (enrolled : s.devices[d] = some x) : s.silent d = true ↔
    (x.state = .acquiring ∨ x.state = .tracking ∨ x.state = .adrift ∨ x.state = .mismatch) ∧
      x.settings.silence < x.sinceWord := by
  rw [silent, enrolled, Option.any_some, Bool.and_eq_true, heard_iff, decide_eq_true_eq]

theorem silent_none {s : State} {d : DeviceId} (absent : s.devices[d] = none) : s.silent d = false := by
  rw [silent, absent]
  rfl

theorem not_silent_iff {s : State} {d : DeviceId} {x : Device} (enrolled : s.devices[d] = some x) : s.silent d = false ↔
    x.sinceWord ≤ x.settings.silence ∨ x.state = .absent ∨ x.state = .silent ∨ x.state = .jamming := by
  rw [← Bool.not_eq_true, silent_iff enrolled, ← not_le]
  cases x.state <;> simp

theorem silenceDue_iff (s : State) (d : DeviceId) : s.isDue (.silence d) = true ↔
    s.counted.silent d = true ∧ ∀ e, e < d → s.counted.silent e = false := by
  simp [isDue, silenceDue]

theorem counted_owed_count (s : State) : s.counted.owed.count = false := by
  cases h : s.owed.count
  · rw [counted_made h, h]
  · rw [counted_owed h]
    rfl

/-- R96: the record of a device that falls silent. -/
def Device.silenced (x : Device) : Device :=
  { x with state := .silent, lastOffset := none, validRun := 0, windowCount := 0 }

theorem enterSilent_eq {s : State} {d : DeviceId} {x : Device} (enrolled : s.counted.devices[d] = some x) :
    enterSilent d s = s.counted.moveDevice d x.state x.silenced .silence none 0 := by
  simp only [enterSilent, enrolled]
  rfl

/-- The boundary's silences touch the roster, the takes, the output queue and the store. -/
def RosterMoved (s t : State) : Prop := ∃ devices groups writer store,
  t = { s with devices := devices, groups := groups, writer := writer, store := store }

theorem rosterMoved_self (s : State) : RosterMoved s s := ⟨_, _, _, _, rfl⟩

theorem rosterMoved_moveDevice {s t : State} (d previous r reason offset extra) (h : RosterMoved s t) :
    RosterMoved s (t.moveDevice d previous r reason offset extra) := by
  obtain ⟨_, _, _, _, rfl⟩ := h
  rw [moveDevice_frame]
  exact ⟨_, _, _, _, rfl⟩

theorem rosterMoved_enterSilent {s t : State} (d : DeviceId) (made : s.owed.count = false) (h : RosterMoved s t) :
    RosterMoved s (enterSilent d t) := by
  have counted : t.counted = t := by
    obtain ⟨_, _, _, _, rfl⟩ := h
    exact counted_made made
  cases enrolled : t.counted.devices[d] with
  | none =>
    simp only [enterSilent, enrolled]
    exact counted.symm ▸ h
  | some x =>
    rw [enterSilent_eq enrolled, counted]
    exact rosterMoved_moveDevice _ _ _ _ _ _ h

theorem rosterMoved_closeSilences {s : State} (made : s.owed.count = false) : RosterMoved s s.closeSilences := by
  refine Kept.forEach (P := RosterMoved s) 16 (fun d t h => ?_) (rosterMoved_self s)
  split
  · exact rosterMoved_enterSilent d made h
  · exact h

theorem rosterMoved_rosterFirst (s : State) : RosterMoved s s.rosterFirst := by
  rw [rosterFirst]
  split
  · exact rosterMoved_self s
  · next made => exact rosterMoved_closeSilences (Bool.eq_false_iff.mpr made)

theorem closeSilence_devices {t : State} (d : DeviceId) (made : t.owed.count = false) :
    (if t.silent d then enterSilent d t else t).devices = t.devices.set d (t.devices[d].map fun x =>
      if (x.state = .acquiring ∨ x.state = .tracking ∨ x.state = .adrift ∨ x.state = .mismatch) ∧
          x.settings.silence < x.sinceWord then x.silenced else x) := by
  cases enrolled : t.devices[d] with
  | none =>
    rw [silent_none enrolled, Option.map_none, ← enrolled]
    exact (Vector.set_getElem_self _).symm
  | some x =>
    rw [Option.map_some]
    by_cases falls : t.silent d = true
    · rw [if_pos falls, if_pos ((silent_iff enrolled).mp falls)]
      rw [← counted_made made] at enrolled
      rw [enterSilent_eq enrolled, moveDevice_frame, counted_made made]
    · rw [if_neg falls, if_neg (mt (silent_iff enrolled).mpr falls), ← enrolled]
      exact (Vector.set_getElem_self _).symm

theorem closeSilences_devices {s : State} (made : s.owed.count = false) (d : DeviceId) :
    s.closeSilences.devices[d] = s.devices[d].map fun x =>
      if (x.state = .acquiring ∨ x.state = .tracking ∨ x.state = .adrift ∨ x.state = .mismatch) ∧
          x.settings.silence < x.sinceWord then x.silenced else x :=
  forEach_items (f := fun d t => if t.silent d then enterSilent d t else t) (item := fun d (t : State) => t.devices[d]) (fun t => t.owed.count = false)
    (fun d t made => by
      obtain ⟨_, _, _, _, h⟩ : RosterMoved t (if t.silent d then enterSilent d t else t) := by
        split
        · exact rosterMoved_enterSilent d made (rosterMoved_self t)
        · exact rosterMoved_self t
      rw [h]
      exact made)
    (fun d e t apart made => by
      rw [closeSilence_devices d made]
      exact Vector.getElem_set_ne _ _ fun h => apart (Fin.ext h))
    s made
    (fun d t made own => by
      rw [closeSilence_devices d made, own]
      exact Vector.getElem_set_self _)
    d

/-- Settles O47: a device past its limit enters SILENT in device order; then what another event of the instant finds. -/
theorem silenceEntersSilent : Obligations.SilenceEntersSilent := by
  refine ⟨fun w d s x => ?_, fun s => ⟨fun owed => rosterFirst_as_it_stands (.inl owed), fun made => ?_⟩⟩
  · intro u
    have row : exec (.silence w d) s = .next (takeIfDue (.silence d) u) := rfl
    clear_value u
    intro c
    have counted : u.counted = c := rfl
    have here : c.here = u.here := by
      rw [← counted, State.counted]
      split <;> rfl
    clear_value c
    intro enrolled
    refine ⟨fun heard past first => ?_, fun h => ?_⟩
    · have due : u.isDue (.silence d) = true := by
        rw [silenceDue_iff, counted]
        refine ⟨(silent_iff enrolled).mpr ⟨heard, past⟩, fun e lower => ?_⟩
        cases other : c.devices[e] with
        | none => exact silent_none other
        | some y => exact (not_silent_iff other).mpr (first e y lower other)
      rw [row, takeIfDue_due due, takeEvent, enterSilent_eq (counted ▸ enrolled), counted,
        moveDevice_suspect (.inr rfl), here]
      rfl
    · rw [row, takeIfDue_not_due (Bool.eq_false_iff.mpr fun due => ?_)]
      have falls := ((silenceDue_iff u d).mp due).1
      rw [counted, (not_silent_iff enrolled).mpr h] at falls
      exact Bool.noConfusion falls
  · have closed : s.rosterFirst = s.closeSilences := if_neg (Bool.eq_false_iff.mp made)
    obtain ⟨_, _, _, _, frame⟩ := rosterMoved_rosterFirst s
    refine ⟨?_, ?_, ?_, ?_, ?_, fun d => ?_⟩
    · rw [frame]
    · rw [frame]
    · rw [frame]
    · rw [frame]
    · rw [frame]
    · rw [closed, closeSilences_devices made]
      rfl

end Sys2Proof.Machine
end

section
/-! SUPPORT. How a valid word moves a device's record while the clock runs (R86 to R95). -/

namespace Sys2Proof.Machine

open State

/-! ## Which rule a word falls under (R80, R86, R87) -/

section
variable {d : DeviceId} {x : Device} {w : TimeWord} {delay : Nat} {s : State}

theorem rosterWord_stopped (stopped : s.clock.state = .stopped) : rosterWord d w delay s = s := by
  rw [rosterWord]
  cases s.devices[d] <;> simp [running_false stopped]

variable (enrolled : s.devices[d] = some x) (moving : s.clock.state ≠ .stopped)
include enrolled moving

theorem rosterWord_otherRate (state : x.state ≠ .jamming) (foreign : w.rate ≠ s.clock.rate) :
    rosterWord d w delay s = otherRate d { x with sinceWord := 0 } w.rate s := by
  have other : (w.rate == s.clock.rate) = false := beq_eq_false_iff_ne.mpr foreign
  simp only [rosterWord, enrolled, (running_iff s).mpr moving, other]
  cases h : x.state
  case jamming => exact absurd h state
  all_goals rfl

section
variable (same : w.rate = s.clock.rate) {v : Int} (offset : wordOffset s.clock.startCount s.clock.rate w.label s.here delay = v)
include same offset

theorem rosterWord_first (state : x.state = .absent ∨ x.state = .silent ∨ x.state = .mismatch) :
    rosterWord d w delay s = firstWord d { x with sinceWord := 0 } v s := by
  have this_rate : (w.rate == s.clock.rate) = true := beq_iff_eq.mpr same
  rcases state with state | state | state <;>
    simp only [rosterWord, enrolled, (running_iff s).mpr moving, this_rate, offset, state] <;> rfl

theorem rosterWord_acquiring (state : x.state = .acquiring) :
    rosterWord d w delay s = acquiringWord d { x with sinceWord := 0 } v w.label s := by
  have this_rate : (w.rate == s.clock.rate) = true := beq_iff_eq.mpr same
  simp only [rosterWord, enrolled, (running_iff s).mpr moving, this_rate, offset, state]
  rfl

theorem rosterWord_tracking (state : x.state = .tracking) :
    rosterWord d w delay s = trackingWord d { x with sinceWord := 0 } v w.label s := by
  have this_rate : (w.rate == s.clock.rate) = true := beq_iff_eq.mpr same
  simp only [rosterWord, enrolled, (running_iff s).mpr moving, this_rate, offset, state]
  rfl

theorem rosterWord_adrift (state : x.state = .adrift) :
    rosterWord d w delay s = adriftWord d { x with sinceWord := 0 } v w.label s := by
  have this_rate : (w.rate == s.clock.rate) = true := beq_iff_eq.mpr same
  simp only [rosterWord, enrolled, (running_iff s).mpr moving, this_rate, offset, state]
  rfl

end

end

/-! ## Words outside TRACKING (R87 to R90, R95) -/

section
variable {d : DeviceId} {x : Device} {v : Int} {l : Label} {s : State}

theorem otherRate_mismatch (rate : Nat) (state : x.state = .mismatch) : otherRate d x rate s = s.setDevice d (some x) :=
  if_pos state

theorem otherRate_moved (rate : Nat) (state : x.state ≠ .mismatch) : otherRate d x rate s =
    (s.setDevice d (some { x with state := .mismatch, lastOffset := none, validRun := 0, windowCount := 0 })).handReport
      { position := s.here, urgent := false
        body := .deviceState d (some x.state) (some .mismatch) .rate x.strikes none (BitVec.ofNat 32 rate) } := by
  rw [otherRate, if_neg state, moveDevice_quiet (by simp)]

theorem firstWord_eq : firstWord d x v s =
    (s.setDevice d (some { x with state := .acquiring, validRun := 1, lastOffset := some v })).handReport
      { position := s.here, urgent := false
        body := .deviceState d (some x.state) (some .acquiring) .firstWord x.strikes (some v) 0 } := by
  rw [firstWord, moveDevice_quiet (by simp)]

theorem acquiringWord_jump (jump : isJump s.clock.rate x.lastOffset v = true) :
    acquiringWord d x v l s = s.setDevice d (some { x with validRun := 1, lastOffset := some v }) := by
  simp only [acquiringWord, jump, if_true]
  rfl

theorem acquiringWord_counted (steady : isJump s.clock.rate x.lastOffset v = false) (few : x.validRun < 2) :
    acquiringWord d x v l s = s.setDevice d (some { x with validRun := x.validRun + 1, lastOffset := some v }) := by
  have run : x.validRun + 1 < 3 := by omega
  simp only [acquiringWord, steady, Bool.false_eq_true, if_false, if_pos run]

theorem acquiringWord_acquired (steady : isJump s.clock.rate x.lastOffset v = false) (third : 2 ≤ x.validRun)
    (within : v.natAbs ≤ x.settings.hard) : acquiringWord d x v l s =
      s.moveDevice d x.state (x.track v s.here.frame) .acquired (some v) 0 := by
  have run : ¬ x.validRun + 1 < 3 := by omega
  simp only [acquiringWord, steady, Bool.false_eq_true, if_false, if_neg run, if_pos within]

theorem acquiringWord_breach (steady : isJump s.clock.rate x.lastOffset v = false) (third : 2 ≤ x.validRun)
    (beyond : x.settings.hard < v.natAbs) : acquiringWord d x v l s = enterAdrift d x v l s := by
  have run : ¬ x.validRun + 1 < 3 := by omega
  simp only [acquiringWord, steady, Bool.false_eq_true, if_false, if_neg run, if_neg (Nat.not_le.mpr beyond)]

theorem enterAdrift_eq : enterAdrift d x v l s = hardBreach d v l (State.suspectNotice
    ((s.setDevice d (some { x with state := .adrift, validRun := 0, windowCount := 0, lastOffset := some v })).handReport
      { position := s.here, urgent := false
        body := .deviceState d (some x.state) (some .adrift) .breach x.strikes (some v) 0 }) d) := by
  rw [enterAdrift, moveDevice_suspect (.inl rfl)]
  rfl

theorem track_moved (previous : DeviceState) (reason : DeviceReason) :
    s.moveDevice d previous (x.track v s.here.frame) reason (some v) 0 =
      (s.setDevice d (some { x with
        state := .tracking, strikes := 0, validRun := 0, windowOffset := v, windowFrame := s.here.frame, windowCount := 0
        lastOffset := some v })).handReport
        { position := s.here, urgent := false
          body := .deviceState d (some previous) (some .tracking) reason 0 (some v) 0 } := by
  rw [moveDevice_quiet (r := x.track v s.here.frame) (by simp [Device.track])]
  rfl

theorem adriftWord_breach (beyond : x.settings.hard < v.natAbs) : adriftWord d x v l s =
    hardBreach d v l (s.setDevice d (some { x with validRun := 0, lastOffset := some v })) := if_pos beyond

theorem adriftWord_outside (within : v.natAbs ≤ x.settings.hard) (outside : x.settings.soft < v.natAbs) :
    adriftWord d x v l s = s.setDevice d (some { x with validRun := 0, lastOffset := some v }) := by
  rw [adriftWord, if_neg (Nat.not_lt.mpr within), if_pos outside]

theorem adriftWord_counted (hard : v.natAbs ≤ x.settings.hard) (soft : v.natAbs ≤ x.settings.soft) (few : x.validRun < 2) :
    adriftWord d x v l s = s.setDevice d (some { x with validRun := x.validRun + 1, lastOffset := some v }) := by
  rw [adriftWord, if_neg (Nat.not_lt.mpr hard), if_neg (Nat.not_lt.mpr soft), if_pos (by omega)]

theorem adriftWord_recovered (hard : v.natAbs ≤ x.settings.hard) (soft : v.natAbs ≤ x.settings.soft) (third : 2 ≤ x.validRun) :
    adriftWord d x v l s = s.moveDevice d x.state (x.track v s.here.frame) .recovered (some v) 0 := by
  rw [adriftWord, if_neg (Nat.not_lt.mpr hard), if_neg (Nat.not_lt.mpr soft), if_neg (by omega)]

/-! ## Words in TRACKING (R91 to R93) -/

/-- R91, R93: the record of a word judged in TRACKING that is no hard breach, before its strike. -/
def Device.judged (x : Device) (jump : Bool) (v : Int) (f : FrameNo) : Device :=
  if jump then { x with windowOffset := v, windowFrame := f, windowCount := 0, lastOffset := some v }
  else { x.countWindow v f with lastOffset := some v }

theorem orElse_eq {α : Type} (a b : Option α) : (a.orElse fun _ => b) = if a = none then b else a := by
  cases a <;> simp

theorem countWindow_eq (f : FrameNo) : x.countWindow v f =
    if x.windowCount + 1 < x.settings.driftWindow then { x with windowCount := x.windowCount + 1 }
    else
      { x with windowCount := 0, windowOffset := v, windowFrame := f
               drift := if driftEstimate x.windowOffset x.windowFrame v f = none then x.drift
                 else driftEstimate x.windowOffset x.windowFrame v f } := by
  simp only [Device.countWindow, orElse_eq]

theorem judged_kept (jump : Bool) (f : FrameNo) : (x.judged jump v f).settings = x.settings ∧
    (x.judged jump v f).state = x.state ∧ (x.judged jump v f).strikes = x.strikes ∧
    (x.judged jump v f).jamWanted = x.jamWanted := by
  rw [Device.judged, Device.countWindow]
  split_ifs <;> exact ⟨rfl, rfl, rfl, rfl⟩

theorem trackingWord_breach (beyond : x.settings.hard < v.natAbs) : trackingWord d x v l s = enterAdrift d x v l s :=
  if_pos beyond

theorem trackingWord_jump (state : x.state = .tracking) (within : v.natAbs ≤ x.settings.hard)
    (jump : isJump s.clock.rate x.lastOffset v = true) : trackingWord d x v l s =
      judgeStrike d (x.judged true v s.here.frame) v ((s.setDevice d (some (x.judged true v s.here.frame))).handReport
        { position := s.here, urgent := false
          body := .deviceState d (some .tracking) (some x.state) .jump x.strikes (some v)
            (BitVec.ofInt 32 (x.lastOffset.getD 0)) }) := by
  simp only [trackingWord, if_neg (Nat.not_lt.mpr within), jump, if_true]
  rw [moveDevice_quiet (by simp [state])]
  rfl

theorem trackingWord_steady (within : v.natAbs ≤ x.settings.hard) (steady : isJump s.clock.rate x.lastOffset v = false) :
    trackingWord d x v l s = judgeStrike d (x.judged false v s.here.frame) v s := by
  simp only [trackingWord, if_neg (Nat.not_lt.mpr within), steady]
  rfl

theorem isStrike_within (within : v.natAbs ≤ x.settings.hard) : x.isStrike v =
    (decide (x.settings.soft < v.natAbs) && match x.settings.filter with
      | .lead => decide (v < 0)
      | .lag => decide (0 < v)
      | .both => true) := by
  simp only [Device.isStrike, within, and_true] <;> cases x.settings.filter <;> rfl

theorem judgeStrike_none (none : x.isStrike v = false) : judgeStrike d x v s = s.setDevice d (some x) := by
  simp [judgeStrike, none]

theorem judgeStrike_counted (strike : x.isStrike v = true) (few : x.strikes + 1 < x.settings.threshold) :
    judgeStrike d x v s = s.setDevice d (some { x with strikes := x.strikes + 1 }) := by
  simp [judgeStrike, strike, few]

/-- R92: DRIFT is written at the threshold. -/
def State.driftReported (s : State) (d : DeviceId) (x : Device) (v : Int) (wanted : Bool) : State :=
  (s.setDevice d (some { x with strikes := 0, jamWanted := wanted })).handReport
    { position := s.here, urgent := false
      body := .drift d v x.settings.threshold x.drift x.settings.policy wanted }

theorem judgeStrike_unwanted (strike : x.isStrike v = true) (last : x.settings.threshold ≤ x.strikes + 1)
    (policy : x.settings.policy = .none) : judgeStrike d x v s = s.driftReported d x v x.jamWanted := by
  simp only [judgeStrike, strike, if_neg (Nat.not_lt.mpr last), policy, Bool.or_false, bne_self_eq_false, if_true, driftReported]
  rfl

theorem judgeStrike_wanted (strike : x.isStrike v = true) (last : x.settings.threshold ≤ x.strikes + 1)
    (policy : x.settings.policy ≠ .none) : judgeStrike d x v s =
      wantedNotice { x with strikes := 0, jamWanted := true } (s.driftReported d x v true) := by
  have wants : (x.settings.policy != .none) = true := bne_iff_ne.mpr policy
  simp only [judgeStrike, strike, if_neg (Nat.not_lt.mpr last), wants, Bool.or_true, if_true, driftReported]
  rfl

end

/-- Settles O48: a word's rule by the record's state and the word's rate and offset, then a word judged in TRACKING. -/
theorem wordsMoveTheRecord : Obligations.WordsMoveTheRecord := by
  refine ⟨fun d x l rate delay jam user take s => ?_, fun d x o l s => ?_⟩
  · intro o heard given word foreign moved tracked adrift enrolled
    refine ⟨rosterWord_stopped, fun moving other => ⟨fun state => ?_, fun state => ?_⟩, fun moving => ?_⟩
    · exact (rosterWord_otherRate enrolled moving (by rw [state]; decide) other).trans (otherRate_mismatch rate state)
    · refine (rosterWord_otherRate enrolled moving ?_ other).trans (otherRate_moved rate ?_) <;>
        rcases state with state | state | state | state | state <;> simp [state]
    have acquiring := rosterWord_acquiring (w := given s.clock.rate) enrolled moving rfl (v := o) rfl
    have tracking := rosterWord_tracking (w := given s.clock.rate) enrolled moving rfl (v := o) rfl
    have inAdrift := rosterWord_adrift (w := given s.clock.rate) enrolled moving rfl (v := o) rfl
    refine ⟨fun state => ?_, fun state jump => ?_, fun state steady few => ?_, fun state steady third within => ?_,
      fun state beyond => ?_, tracking, fun state beyond => ?_, fun state outside within => ?_,
      fun state soft ordered => ⟨fun few => ?_, fun third => ?_⟩⟩
    · exact (rosterWord_first enrolled moving rfl rfl state).trans firstWord_eq
    · exact (acquiring state).trans (acquiringWord_jump (x := heard) jump)
    · exact (acquiring state).trans (acquiringWord_counted (x := heard) steady few)
    · exact ((acquiring state).trans (acquiringWord_acquired (x := heard) steady third within)).trans (track_moved _ _)
    · refine Eq.trans ?_ enterAdrift_eq
      rcases state with state | ⟨state, steady, third⟩
      · exact (tracking state).trans (trackingWord_breach (x := heard) beyond)
      · exact (acquiring state).trans (acquiringWord_breach (x := heard) steady third beyond)
    · exact (inAdrift state).trans (adriftWord_breach (x := heard) beyond)
    · exact (inAdrift state).trans (adriftWord_outside (x := heard) within outside)
    · exact (inAdrift state).trans (adriftWord_counted (x := heard) (soft.trans ordered) soft few)
    · exact ((inAdrift state).trans (adriftWord_recovered (x := heard) (soft.trans ordered) soft third)).trans (track_moved _ _)
  · intro f jump last estimate y t strikes drift state within
    have y_eq : x.judged (isJump s.clock.rate x.lastOffset o) o f = y := by
      simp only [Device.judged, y, jump, countWindow_eq, estimate]
      split_ifs <;> rfl
    have judged : trackingWord d x o l s = judgeStrike d y o t := by
      rw [← y_eq]
      by_cases jumps : isJump s.clock.rate x.lastOffset o = true
      · have made := trackingWord_jump (d := d) (l := l) state within jumps
        rw [state] at made
        have report : t = (s.setDevice d (some y)).handReport _ := if_pos jumps
        rw [made, report, ← y_eq, jumps]
      · have steady := Bool.eq_false_iff.mpr jumps
        have same : t = s := if_neg jumps
        rw [trackingWord_steady within steady, same, steady]
    obtain ⟨settings, _, count, wanted⟩ := judged_kept (x := x) (v := o) (isJump s.clock.rate x.lastOffset o) f
    rw [y_eq] at settings count wanted
    have strikes_eq : y.isStrike o = strikes := by
      refine (isStrike_within (settings ▸ within)).trans ?_
      simp only [strikes, settings] <;> cases x.settings.filter <;> rfl
    clear_value strikes y t
    have drift_eq (b : Bool) : drift b = t.driftReported d y o b := by
      simp only [drift, driftReported, settings]
    clear_value drift
    rw [judged, drift_eq, drift_eq, ← count, ← settings, ← wanted]
    refine ⟨fun none => judgeStrike_none (strikes_eq.trans none), fun strike => judgeStrike_counted (strikes_eq.trans strike),
      fun strike => judgeStrike_unwanted (strikes_eq.trans strike), fun strike reached policy => ⟨fun free => ?_, fun p path => ?_⟩⟩
    · refine (judgeStrike_wanted (strikes_eq.trans strike) reached policy).trans ?_
      simp only [wantedNotice, free]
    · refine (judgeStrike_wanted (strikes_eq.trans strike) reached policy).trans ?_
      simp only [wantedNotice, path]

end Sys2Proof.Machine
end

section
/-! SUPPORT. Sets of devices and groups, the opening and closing of takes by marks (R122 to R124, R130 to R135), and the take
orders (R126, R131, R134). -/

namespace Sys2Proof.Machine

open State

/-! ## Sets gathered from a test -/

/-- A set gathered number by number holds the numbers that pass the test. -/
theorem getLsbD_gathered {n : Nat} {one : Fin n → BitVec n} (one_bit : ∀ i j : Fin n, (one j).getLsbD i.val = decide (j = i))
    (p : Fin n → Bool) (i : Fin n) (l : List (Fin n)) (x : BitVec n) :
    (l.foldl (fun x j => if p j then x ||| one j else x) x).getLsbD i.val = (x.getLsbD i.val || (p i && decide (i ∈ l))) := by
  induction l generalizing x with
  | nil => simp
  | cons j l ih =>
    have joined : (if p j then x ||| one j else x).getLsbD i.val = (x.getLsbD i.val || (p j && decide (j = i))) := by
      cases p j
      · rw [Bool.false_and, Bool.or_false]
        rfl
      · rw [Bool.true_and, if_pos rfl, BitVec.getLsbD_or, one_bit]
    rw [List.foldl_cons, ih, joined]
    by_cases same : j = i
    · subst same
      cases p j <;> simp only [List.mem_cons, true_or, decide_true, Bool.and_true, Bool.or_true, Bool.true_or, Bool.false_and,
        Bool.or_false]
    · have other : ¬ i = j := fun h => same h.symm
      simp only [same, decide_false, Bool.and_false, Bool.or_false, List.mem_cons, other, false_or]

theorem getLsbD_one_shift {n : Nat} (i j : Fin n) : (1#n <<< j.val).getLsbD i.val = decide (j = i) := by
  have hi := i.isLt
  have hj := j.isLt
  rw [BitVec.getLsbD_shiftLeft, BitVec.getLsbD_one]
  by_cases same : j = i
  · subst same
    simp [hi]
    omega
  · have apart : j.val ≠ i.val := fun h => same (Fin.ext h)
    simp only [same, decide_false, Bool.and_eq_false_iff, decide_eq_false_iff_not, Bool.not_eq_false', decide_eq_true_eq]
    omega

theorem getLsbD_none {n : Nat} (i : Nat) : (0 : BitVec n).getLsbD i = false := BitVec.getLsbD_zero

theorem inSet_deviceSet (p : DeviceId → Bool) (d : DeviceId) : inSet (deviceSet p) d = p d := by
  have gathered := getLsbD_gathered (one := single) (fun i j => getLsbD_one_shift i j) p d (List.finRange 16) 0
  rw [decide_eq_true (List.mem_finRange d), Bool.and_true, getLsbD_none, Bool.false_or] at gathered
  exact gathered

theorem getLsbD_groupsWhere (s : State) (p : Take → Bool) (g : GroupId) :
    (s.groupsWhere p).getLsbD g.val = s.groups[g].current.any p := by
  have gathered := getLsbD_gathered (one := singleGroup) (fun i j => getLsbD_one_shift i j)
    (fun g => s.groups[g].current.any p) g (List.finRange 8) 0
  rw [decide_eq_true (List.mem_finRange g), Bool.and_true, getLsbD_none, Bool.false_or] at gathered
  exact gathered

theorem groupsWhere_eq_zero (s : State) (p : Take → Bool) :
    s.groupsWhere p = 0 ↔ ∀ (g : GroupId) (k : Take), s.groups[g].current = some k → p k = false := by
  constructor
  · intro empty g k isOpen
    have bit := getLsbD_groupsWhere s p g
    rw [empty, isOpen, Option.any_some] at bit
    simpa using bit.symm
  · intro none
    apply BitVec.eq_of_getLsbD_eq
    intro i hi
    have bit := getLsbD_groupsWhere s p ⟨i, hi⟩
    rw [show (s.groupsWhere p).getLsbD i = _ from bit]
    cases isOpen : s.groups[(⟨i, hi⟩ : GroupId)].current with
    | none => simp
    | some k => simpa using none _ k isOpen

/-! ## Groups and their open takes (R128) -/

theorem isOpen_of_current {g : Group} {k : Take} (h : g.current = some k) : g.isOpen = true := by
  rw [Group.isOpen, h]
  rfl

theorem not_isOpen_of_current {g : Group} (h : g.current = none) : g.isOpen = false := by
  rw [Group.isOpen, h]
  rfl

/-- The open take of a group is its take, not yet closed. -/
theorem current_eq_some {g : Group} {k : Take} : g.current = some k ↔ g.take = some k ∧ k.closed = none := by
  rw [Group.current, Option.filter_eq_some_iff, Take.isOpen, Option.isNone_iff_eq_none]

theorem setGroup_own (s : State) (g : GroupId) (x : Group) : (s.setGroup g x).groups[g] = x := Vector.getElem_set_self _

theorem setGroup_setGroup (s : State) (g : GroupId) (x y : Group) : (s.setGroup g x).setGroup g y = s.setGroup g y := by
  simp only [setGroup, Vector.set_set]

/-! ## Marks placed in a take (R133) -/

section
variable (m : Mark) (t : Take)

theorem place_room (room : t.marks.length < 8) :
    Take.place m t = { t with markTotal := min 65535 (t.markTotal + 1), marks := t.marks ++ [m] } :=
  if_pos (decide_eq_true room)

theorem place_full (full : 8 ≤ t.marks.length) : Take.place m t =
    { t with markTotal := min 65535 (t.markTotal + 1), flags := { t.flags with marksOverflow := true } } :=
  if_neg (by rw [Take.hasRoom, decide_eq_true_eq]; omega)

/-- What a mark's placing leaves of a take. -/
theorem place_kept : (Take.place m t).markTotal = min 65535 (t.markTotal + 1) ∧
    (Take.place m t).participants = t.participants ∧ (Take.place m t).number = t.number ∧ (Take.place m t).tag = t.tag ∧
    (Take.place m t).suspects = t.suspects ∧ (Take.place m t).closed = t.closed := by
  rcases Nat.lt_or_ge t.marks.length 8 with room | full
  · rw [place_room m t room]
    exact ⟨rfl, rfl, rfl, rfl, rfl, rfl⟩
  · rw [place_full m t full]
    exact ⟨rfl, rfl, rfl, rfl, rfl, rfl⟩

end

/-! ## Opening and closing a take (R130, R135) -/

theorem openTake_eq (s : State) (g : GroupId) (opener : Opener) (tag : BitVec 32) : s.openTake g opener tag =
    (s.setGroup g { s.groups[g] with
      counter := (s.newTake g opener tag).number, take := some (s.newTake g opener tag) }).handReport
      { position := s.here, urgent := false
        body := .takeOpened g (s.newTake g opener tag).number (s.newTake g opener tag).tag opener
          (s.newTake g opener tag).participantSet (s.newTake g opener tag).flags (s.newTake g opener tag).openCount } := rfl

theorem closeTake_open {s : State} {g : GroupId} {k : Take} (closer : Closer) (isOpen : s.groups[g].current = some k) :
    s.closeTake g closer = State.autoCheckAll
      ((s.setGroup g { s.groups[g] with take := some { k with closed := some (s.here, closer) } }).handReport
        { position := s.here, urgent := false
          body := .takeClosed g k.number k.tag closer k.flags k.suspects k.markTotal k.marks.length }) := by
  simp only [closeTake, isOpen]
  rfl

/-- R122: an END mark is placed in the open take before it closes. -/
theorem closeTake_placeMark {s : State} {g : GroupId} {k : Take} {m : Mark} (closer : Closer)
    (isOpen : s.groups[g].current = some k) : (s.placeMark g m).closeTake g closer = State.autoCheckAll
      ((s.setGroup g { s.groups[g] with
          take := some { Take.place m k with closed := some (s.here, closer) } }).handReport
        { position := s.here, urgent := false
          body := .takeClosed g (Take.place m k).number (Take.place m k).tag closer (Take.place m k).flags
            (Take.place m k).suspects (Take.place m k).markTotal (Take.place m k).marks.length }) := by
  obtain ⟨_, _, _, _, _, closed⟩ := place_kept m k
  obtain ⟨_, unclosed⟩ := current_eq_some.mp isOpen
  rw [placeMark_open isOpen, closeTake_open (k := Take.place m k) closer
    (by rw [setGroup_own]; exact current_eq_some.mpr ⟨rfl, closed.trans unclosed⟩), setGroup_own, setGroup_setGroup]
  rfl

/-! ## Captured marks (R122 to R124) -/

section
variable {i : MarkId} {rise : Bool} {g : GroupId} {d : DeviceId} {s : State}

theorem captured_opens (role : s.marks[i].role = .takeStart g) (idle : s.groups[g].current = none) :
    s.captured i rise = s.openTake g (.mark i) s.groups[g].nextTag := by
  simp only [captured, role, not_isOpen_of_current idle, Bool.false_eq_true, if_false]

theorem captured_restart {k : Take} (role : s.marks[i].role = .takeStart g) (isOpen : s.groups[g].current = some k) :
    s.captured i rise = s.landMark i g 2 := by
  simp only [captured, role, isOpen_of_current isOpen, if_true]
  rfl

theorem captured_closes {k : Take} (role : s.marks[i].role = .takeEnd g) (isOpen : s.groups[g].current = some k) :
    s.captured i rise = (s.placeMark g { source := .input i, kind := 3, position := s.here }).closeTake g (.mark i) := by
  simp only [captured, role, isOpen_of_current isOpen, if_true]
  rfl

theorem captured_end_stray (role : s.marks[i].role = .takeEnd g) (idle : s.groups[g].current = none) :
    s.captured i rise = s.strayMark i 3 g.val := by
  simp only [captured, role, not_isOpen_of_current idle, Bool.false_eq_true, if_false]
  rfl

theorem captured_tally (role : s.marks[i].role = .tally d) :
    s.captured i rise = s.tallyMark i d (if rise then 6 else 7) := by
  simp only [captured, role]
  rfl

theorem tallyMark_stray {kind : Word}
    (none : ∀ (h : GroupId) (k : Take), s.groups[h].current = some k → k.lists d = false) :
    s.tallyMark i d kind = s.strayMark i kind d.val := by
  have empty := (groupsWhere_eq_zero s fun t => t.lists d).mpr none
  simp only [tallyMark, empty, if_true]

theorem quietCount_groups (kind : Word) (placed stored : GroupSet) :
    (s.quietCount i kind placed stored).groups = s.groups := by
  rw [quietCount]
  split
  · rfl
  · rw [setMark_groups, report_groups]

theorem tallyMark_groups {kind : Word} (some : ∃ (h : GroupId) (k : Take), s.groups[h].current = some k ∧ k.lists d = true) :
    (s.tallyMark i d kind).groups = s.groups.map (Group.mapOpen (fun k => k.lists d)
      (Take.place { source := .input i, kind := kind, position := s.here })) := by
  obtain ⟨h, k, isOpen, lists⟩ := some
  have placed : ¬ (s.groupsWhere fun t => t.lists d) = 0 := fun empty => by
    rw [(groupsWhere_eq_zero s fun t => t.lists d).mp empty h k isOpen] at lists
    exact Bool.noConfusion lists
  simp only [tallyMark, if_neg placed, quietCount_groups, noticeTakes_groups]

end

/-- Settles O53: a captured mark by its input's role and its group's take, and what placing a mark does to a take. -/
theorem marksOpenAndCloseTakes : Obligations.MarksOpenAndCloseTakes := by
  refine ⟨fun i rise g s => ⟨fun role idle => ⟨s.newTake g (.mark i) s.groups[g].nextTag, ?_, rfl, rfl, rfl, rfl, rfl, rfl, rfl⟩,
    fun role k isOpen => captured_restart role isOpen, fun k role isOpen => ?_, fun role idle => ?_, fun d role none => ?_,
    fun d role listed => ?_⟩, fun m t => ?_⟩
  · rw [captured_opens role idle, openTake_eq]
  · intro e
    rw [captured_closes role isOpen, closeTake_placeMark (.mark i) isOpen]
  · rw [captured_end_stray role idle]
    rfl
  · rw [captured_tally role, tallyMark_stray none]
    rfl
  · rw [captured_tally role, tallyMark_groups listed]
  · obtain ⟨total, participants, number, _, suspects, closed⟩ := place_kept m t
    refine ⟨total, fun room => ?_, fun full => ?_, fun short => ?_, participants, number, suspects, closed⟩
    · rw [place_room m t room]
      exact ⟨rfl, rfl⟩
    · rw [place_full m t full]
      exact ⟨rfl, rfl⟩
    · rcases Nat.lt_or_ge t.marks.length 8 with room | full
      · rw [place_room m t room, List.length_append]
        exact room
      · rw [place_full m t full]
        exact short

/-! ## TAKE_OPEN, MARK_INJECT and TAKE_CLOSE (R126, R131, R132, R134) -/

/-- R132: a take opening now lists the enrolled members of its group. -/
theorem mem_snapshot {s : State} {g : GroupId} {p : Participant} : p ∈ s.snapshot g ↔ ∃ x, s.devices[p.device] = some x ∧
    x.settings.groups.getLsbD g.val = true ∧ p = { device := p.device, state := x.state, lastOffset := x.lastOffset } := by
  rw [snapshot, List.mem_filterMap]
  constructor
  · rintro ⟨d, -, member⟩
    cases enrolled : s.devices[d] with
    | none => simp only [enrolled, reduceCtorEq] at member
    | some x =>
      simp only [enrolled, Option.ite_none_right_eq_some, Option.some.injEq] at member
      obtain ⟨member, rfl⟩ := member
      exact ⟨x, enrolled, member, rfl⟩
  · rintro ⟨x, enrolled, member, made⟩
    refine ⟨p.device, List.mem_finRange _, ?_⟩
    simp only [enrolled, member, if_true, ← made]

theorem lists_snapshot (s : State) (g : GroupId) (d : DeviceId) : ((s.snapshot g).any fun p => p.device == d) = true ↔
    ∃ x, s.devices[d] = some x ∧ x.settings.groups.getLsbD g.val = true := by
  rw [List.any_eq_true]
  constructor
  · rintro ⟨p, listed, same⟩
    obtain rfl := beq_iff_eq.mp same
    obtain ⟨x, enrolled, member, _⟩ := mem_snapshot.mp listed
    exact ⟨x, enrolled, member⟩
  · rintro ⟨x, enrolled, member⟩
    exact ⟨{ device := d, state := x.state, lastOffset := x.lastOffset }, mem_snapshot.mpr ⟨x, enrolled, member, rfl⟩,
      beq_self_eq_true d⟩

theorem snapshot_length (s : State) (g : GroupId) : (s.snapshot g).length ≤ 16 :=
  (List.length_filterMap_le _ _).trans List.length_finRange.le

section
variable {tk : Taking} {a : TagArgs} {g : GroupId} {group kind : Word} {k : Take} {s : State}

theorem ownTakeOpen_refused (bad : 8 ≤ a.group.toNat) : s.ownTakeOpen tk a = refuse .badArg s := by
  simp only [ownTakeOpen, readFin_out_of_range bad]

theorem ownTakeOpen_stopped (named : readFin 8 a.group = some g) (stopped : s.clock.state = .stopped) :
    s.ownTakeOpen tk a = refuse .noClock s := by
  simp only [ownTakeOpen, named, running_false stopped]
  rfl

theorem ownTakeOpen_busy (named : readFin 8 a.group = some g) (moving : s.clock.state ≠ .stopped)
    (isOpen : s.groups[g].current ≠ none) : s.ownTakeOpen tk a = refuse .busy s := by
  have taken : s.groups[g].isOpen = true := Option.isSome_iff_ne_none.mpr isOpen
  simp only [ownTakeOpen, named, (running_iff s).mpr moving, taken]
  rfl

theorem ownTakeOpen_opens (named : readFin 8 a.group = some g) (scanned : tk.fired = false)
    (moving : s.clock.state ≠ .stopped) (idle : s.groups[g].current = none) : s.ownTakeOpen tk a =
      acceptWith (openReply (s.newTake g (.order tk.slot) a.tag).number (s.newTake g (.order tk.slot) a.tag).openCount)
        (s.openTake g (.order tk.slot) a.tag) := by
  simp only [ownTakeOpen, named, (running_iff s).mpr moving, not_isOpen_of_current idle, scanned]
  rfl

theorem ownMarkInject_refused (bad : 8 ≤ group.toNat) : s.ownMarkInject group kind = refuse .badArg s := by
  simp only [ownMarkInject, readFin_out_of_range bad]

theorem ownMarkInject_stopped (named : readFin 8 group = some g) (stopped : s.clock.state = .stopped) :
    s.ownMarkInject group kind = refuse .noClock s := by
  simp only [ownMarkInject, named, running_false stopped]
  rfl

theorem ownMarkInject_idle (named : readFin 8 group = some g) (moving : s.clock.state ≠ .stopped)
    (idle : s.groups[g].current = none) : s.ownMarkInject group kind = refuse .notOpen s := by
  simp only [ownMarkInject, named, (running_iff s).mpr moving, idle]
  rfl

theorem ownMarkInject_placed (named : readFin 8 group = some g) (moving : s.clock.state ≠ .stopped)
    (isOpen : s.groups[g].current = some k) : s.ownMarkInject group kind = acceptWith
      { w29 := num k.number, w30 := num (min 65535 (k.markTotal + 1)), w31 := 0 }
      ((s.setGroup g { s.groups[g] with
          take := some (Take.place { source := .inject, kind := kind, position := s.here } k) }).handReport
        { position := s.here, urgent := false
          body := .mark .inject kind (singleGroup g) (if k.marks.length < 8 then singleGroup g else 0) 0 }) := by
  obtain ⟨total, _, number, _⟩ := place_kept { source := .inject, kind := kind, position := s.here } k
  simp only [ownMarkInject, named, (running_iff s).mpr moving, isOpen, takeReply, total, number, placeMark_open isOpen,
    storedSet_open isOpen]
  rfl

theorem ownTakeClose_refused (bad : 8 ≤ group.toNat) : s.ownTakeClose tk group = refuse .badArg s := by
  simp only [ownTakeClose, readFin_out_of_range bad]

theorem ownTakeClose_idle (named : readFin 8 group = some g) (idle : s.groups[g].current = none) :
    s.ownTakeClose tk group = refuse .notOpen s := by
  simp only [ownTakeClose, named, idle]

theorem ownTakeClose_closes (named : readFin 8 group = some g) (scanned : tk.fired = false)
    (isOpen : s.groups[g].current = some k) : s.ownTakeClose tk group =
      acceptWith { w29 := num k.number, w30 := num k.markTotal, w31 := 0 } (s.closeTake g (.order tk.slot)) := by
  simp only [ownTakeClose, named, isOpen, scanned]
  rfl

end

section
variable {w : Nat} {n : SlotId} {t : Timing} {s s' : State} {code : ResultCode} {reply : Reply} {record : Option ReplyRecord}
  (ready : (upTo w s).bus.ready = true) (atOnce : t.timing = 0)
include ready atOnce

theorem exec_takeOpen {a : TagArgs} (answer : (orderTaken n t (.takeOpen a) (upTo w s)).ownTakeOpen
      { slot := n, fired := false, again := false, late := false } a = (s', .completes code reply record)) :
    exec (.takeOpen w n t a) s = .next (completeSlot n code reply record s') :=
  exec_orderRow_completes (o := .takeOpen a) rfl ready atOnce answer

theorem exec_markInject {group kind : Word} (answer : (orderTaken n t (.markInject group kind) (upTo w s)).ownMarkInject
      group kind = (s', .completes code reply record)) :
    exec (.markInject w n t group kind) s = .next (completeSlot n code reply record s') :=
  exec_orderRow_completes (o := .markInject group kind) rfl ready atOnce answer

theorem exec_takeClose {group : Word} (answer : (orderTaken n t (.takeClose group) (upTo w s)).ownTakeClose
      { slot := n, fired := false, again := false, late := false } group = (s', .completes code reply record)) :
    exec (.takeClose w n t group) s = .next (completeSlot n code reply record s') :=
  exec_orderRow_completes (o := .takeClose group) rfl ready atOnce answer

end

/-- Settles O54: the three orders by their group, the clock's state and the group's open take. -/
theorem takeOrders : Obligations.TakeOrders := by
  intro w n t g tag kind s ready atOnce
  have named : readFin 8 (num g.val) = some g := readFin_num (by decide) g
  refine ⟨?_, ?_, ?_, fun k bad => ?_⟩
  · intro v c
    have completes {s' : State} {code : ResultCode} {reply : Reply} (answer : v.ownTakeOpen
        { slot := n, fired := false, again := false, late := false } { group := num g.val, tag := tag } =
          (s', .completes code reply none)) : exec c s = .next (completeSlot n code reply none s') :=
      exec_takeOpen ready atOnce answer
    clear_value v c
    refine ⟨fun stopped => completes (ownTakeOpen_stopped named stopped),
      fun moving isOpen => completes (ownTakeOpen_busy named moving isOpen),
      fun moving idle => ⟨v.newTake g (.order n) tag, completes (ownTakeOpen_opens named rfl moving idle),
        rfl, rfl, rfl, rfl, rfl, rfl, rfl, rfl, rfl, rfl, snapshot_length v g, lists_snapshot v g⟩⟩
  · intro v c
    have completes {s' : State} {code : ResultCode} {reply : Reply}
        (answer : v.ownMarkInject (num g.val) kind = (s', .completes code reply none)) :
        exec c s = .next (completeSlot n code reply none s') := exec_markInject ready atOnce answer
    clear_value v c
    exact ⟨fun stopped => completes (ownMarkInject_stopped named stopped),
      fun moving idle => completes (ownMarkInject_idle named moving idle),
      fun k moving isOpen => completes (ownMarkInject_placed named moving isOpen)⟩
  · intro v c
    have completes {s' : State} {code : ResultCode} {reply : Reply} (answer : v.ownTakeClose
        { slot := n, fired := false, again := false, late := false } (num g.val) = (s', .completes code reply none)) :
        exec c s = .next (completeSlot n code reply none s') := exec_takeClose ready atOnce answer
    clear_value v c
    refine ⟨fun idle => completes (ownTakeClose_idle named idle), fun k isOpen => completes ?_⟩
    rw [ownTakeClose_closes named rfl isOpen, closeTake_open (.order n) isOpen]
    rfl
  · intro refused
    exact ⟨exec_takeOpen ready atOnce (ownTakeOpen_refused bad), exec_markInject ready atOnce (ownMarkInject_refused bad),
      exec_takeClose ready atOnce (ownTakeClose_refused bad)⟩

end Sys2Proof.Machine
end

section
/-! SUPPORT. The four queries (R24, R85, R127, R146, R180) and the lengths of their records (R185). -/

namespace Sys2Proof.Machine

open State

/-! ## The lengths of the records (R185) -/

theorem optSigned32_length (x : Option Int) : (optSigned32 x).length = 2 := by cases x <;> rfl

theorem clockRecord_length (c : Clock) (p : Position) : (clockRecord c p).length = 28 + c.history.length := by
  have tune : ((c.pendingTune.map tuneWords).getD [0, 0, 0, 0, 0]).length = 5 := by cases c.pendingTune <;> rfl
  simp only [clockRecord, wide32, num32, List.length_append, List.length_cons, List.length_nil, List.length_map, tune,
    optSigned32_length]

theorem captureWords_length (x : Option Capture) : (captureWords x).length = 11 := by cases x <;> rfl

theorem inputWords_length (x : Option Input) : (inputWords x).length = 4 := by cases x <;> rfl

theorem deviceRecord_length (d : DeviceId) (x : Device) (i : Option Input) : (deviceRecord d x i).length = 41 := by
  simp [deviceRecord, num32, signed32, wide32, optSigned32_length, captureWords_length, inputWords_length]

theorem markRecord_length (i : MarkId) (m : MarkInput) : (markRecord i m).length = 16 := by
  simp [markRecord, wide32]

theorem takeHead_length (g : Group) : (takeHead g).length = 16 := by
  cases h : g.take <;> simp [takeHead, h, wide32]

theorem participantWords_length (x : DeviceSet) (p : Participant) : (participantWords x p).length = 4 := by
  simp [participantWords, optSigned32_length]

theorem markWords_length (m : Mark) : (markWords m).length = 5 := by simp [markWords, wide32]

theorem flatMap_length {α : Type} {f : α → List Word} {k : Nat} (each : ∀ a, (f a).length = k) (l : List α) :
    (l.flatMap f).length = k * l.length := by
  rw [List.length_flatMap, List.map_congr_left fun a _ => each a, List.map_const', List.sum_replicate, smul_eq_mul, mul_comm]

theorem takeRecord_none {g : Group} (h : g.take = none) : (takeRecord g).length = 16 := by
  simp [takeRecord, h, takeHead_length]

theorem takeRecord_some {g : Group} {t : Take} (h : g.take = some t) :
    (takeRecord g).length = 16 + 4 * t.participants.length + 5 * t.marks.length := by
  simp only [takeRecord, h, List.length_append, takeHead_length, flatMap_length (participantWords_length t.suspects),
    flatMap_length markWords_length]
  omega

/-! ## The queries' owners -/

/-- R180: the query's reply area lies in the host area. -/
def AreaGood (address capacity : Word) : Prop := 1 ≤ capacity.toNat ∧ capacity.toNat ≤ 14080 ∧ 0x4900 ≤ address.toNat ∧
  address.toNat + capacity.toNat ≤ 0x8000

theorem readArea_good {address capacity : Word} (h : AreaGood address capacity) :
    readArea address capacity = some (address.toNat, capacity.toNat) := if_pos h

theorem readArea_bad {address capacity : Word} (h : ¬ AreaGood address capacity) : readArea address capacity = none := if_neg h

section
variable {a : QueryArgs} {address capacity : Word} {d : DeviceId} {g : GroupId} {i : MarkId} {s : State}

theorem ownQueryClock_bad (bad : readArea address capacity = none) : s.ownQueryClock address capacity = refuse .badArg s := by
  simp only [ownQueryClock, bad]

theorem ownQueryDevice_bad (bad : readArea a.address a.capacity = none ∨ readFin 16 a.subject = none) :
    s.ownQueryDevice a = refuse .badArg s := by
  rcases bad with bad | bad
  · simp only [ownQueryDevice, bad]
  · cases area : readArea a.address a.capacity <;> simp only [ownQueryDevice, area, bad]

theorem ownQueryTake_bad (bad : readArea a.address a.capacity = none ∨ readFin 8 a.subject = none) :
    s.ownQueryTake a = refuse .badArg s := by
  rcases bad with bad | bad
  · simp only [ownQueryTake, bad]
  · cases area : readArea a.address a.capacity <;> simp only [ownQueryTake, area, bad]

theorem ownQueryMark_bad (bad : readArea a.address a.capacity = none ∨ readFin 16 a.subject = none) :
    s.ownQueryMark a = refuse .badArg s := by
  rcases bad with bad | bad
  · simp only [ownQueryMark, bad]
  · cases area : readArea a.address a.capacity <;> simp only [ownQueryMark, area, bad]

theorem ownQueryClock_good (area : AreaGood address capacity) : s.ownQueryClock address capacity =
    answer (address.toNat, capacity.toNat) (clockRecord s.closeClock.clock s.closeClock.here) s.closeClock := by
  simp only [ownQueryClock, readArea_good area]

theorem ownQueryTake_good (area : AreaGood a.address a.capacity) (named : readFin 8 a.subject = some g) :
    s.ownQueryTake a = answer (a.address.toNat, a.capacity.toNat) (takeRecord s.groups[g]) s := by
  simp only [ownQueryTake, readArea_good area, named]

theorem ownQueryMark_good (area : AreaGood a.address a.capacity) (named : readFin 16 a.subject = some i) :
    s.ownQueryMark a = answer (a.address.toNat, a.capacity.toNat) (markRecord i s.marks[i])
      (s.setMark i { s.marks[i] with ignored := 0 }) := by
  simp only [ownQueryMark, readArea_good area, named]

theorem ownQueryDevice_absent (area : AreaGood a.address a.capacity) (named : readFin 16 a.subject = some d)
    (absent : s.rosterFirst.devices[d] = none) : s.ownQueryDevice a = refuse .noDevice s := by
  simp only [ownQueryDevice, readArea_good area, named, absent]

theorem ownQueryDevice_blind {x : Device} (area : AreaGood a.address a.capacity) (named : readFin 16 a.subject = some d)
    (enrolled : s.rosterFirst.devices[d] = some x) (blind : x.settings.input = none) : s.ownQueryDevice a =
      answer (a.address.toNat, a.capacity.toNat) (deviceRecord d x none) s.rosterFirst := by
  simp only [ownQueryDevice, readArea_good area, named, enrolled, blind, Option.map_none]

theorem rosterFirst_inputs (s : State) : s.rosterFirst.inputs = s.inputs := by
  obtain ⟨_, _, _, _, frame⟩ := rosterMoved_rosterFirst s
  rw [frame]

theorem ownQueryDevice_heard {x : Device} {j : InputId} (area : AreaGood a.address a.capacity)
    (named : readFin 16 a.subject = some d) (enrolled : s.rosterFirst.devices[d] = some x) (heard : x.settings.input = some j) :
    s.ownQueryDevice a = answer (a.address.toNat, a.capacity.toNat) (deviceRecord d x (some s.inputs[j]))
      (s.rosterFirst.setInput j { s.inputs[j] with badWords := 0 }) := by
  simp only [ownQueryDevice, readArea_good area, named, enrolled, heard, Option.map_some, rosterFirst_inputs]

theorem rosterFirst_absent (absent : s.devices[d] = none) : s.rosterFirst.devices[d] = none := by
  rw [rosterFirst]
  split
  · exact absent
  · next made => rw [closeSilences_devices (Bool.eq_false_iff.mpr made), absent, Option.map_none]

end

section
variable {w : Nat} {n : SlotId} {t : Timing} {s s' : State} {code : ResultCode} {reply : Reply} {record : Option ReplyRecord}
  (ready : (upTo w s).bus.ready = true) (atOnce : t.timing = 0)
include ready atOnce

theorem exec_queryClock {address capacity : Word} (answer : (orderTaken n t (.queryClock address capacity)
      (upTo w s)).ownQueryClock address capacity = (s', .completes code reply record)) :
    exec (.queryClock w n t address capacity) s = .next (completeSlot n code reply record s') :=
  exec_orderRow_completes (o := .queryClock address capacity) rfl ready atOnce answer

theorem exec_queryDevice {a : QueryArgs} (answer : (orderTaken n t (.queryDevice a) (upTo w s)).ownQueryDevice a =
      (s', .completes code reply record)) : exec (.queryDevice w n t a) s = .next (completeSlot n code reply record s') :=
  exec_orderRow_completes (o := .queryDevice a) rfl ready atOnce answer

theorem exec_queryTake {a : QueryArgs} (answer : (orderTaken n t (.queryTake a) (upTo w s)).ownQueryTake a =
      (s', .completes code reply record)) : exec (.queryTake w n t a) s = .next (completeSlot n code reply record s') :=
  exec_orderRow_completes (o := .queryTake a) rfl ready atOnce answer

theorem exec_queryMark {a : QueryArgs} (answer : (orderTaken n t (.queryMark a) (upTo w s)).ownQueryMark a =
      (s', .completes code reply record)) : exec (.queryMark w n t a) s = .next (completeSlot n code reply record s') :=
  exec_orderRow_completes (o := .queryMark a) rfl ready atOnce answer

end

/-- Settles O56: the queries refused by area and subject, the answered ones with their records, and the records' lengths. -/
theorem queriesAreAnswered : Obligations.QueriesAreAnswered := by
  refine ⟨fun w n t address capacity s => ?_, clockRecord_length, deviceRecord_length, markRecord_length,
    fun g => ⟨takeRecord_none, fun t => takeRecord_some⟩⟩
  intro area answered refused args ready atOnce
  refine ⟨fun bad => ?_, fun good => ⟨?_, fun g => ?_, fun i => ?_, fun d => ⟨fun absent => ?_, fun x enrolled =>
    ⟨fun blind => ?_, fun i heard => ?_⟩⟩, fun k large => ?_, fun k large => ?_⟩⟩
  · have bad := readArea_bad (address := address) (capacity := capacity) bad
    exact ⟨exec_queryClock ready atOnce (ownQueryClock_bad bad), fun k => ⟨exec_queryDevice ready atOnce
      (ownQueryDevice_bad (.inl bad)), exec_queryTake ready atOnce (ownQueryTake_bad (.inl bad)),
      exec_queryMark ready atOnce (ownQueryMark_bad (.inl bad))⟩⟩
  · exact exec_queryClock ready atOnce (ownQueryClock_good good)
  · exact exec_queryTake ready atOnce (ownQueryTake_good (a := args g.val) good (readFin_num (by decide) g))
  · exact exec_queryMark ready atOnce (ownQueryMark_good (a := args i.val) good (readFin_num (by decide) i))
  · refine exec_queryDevice ready atOnce (ownQueryDevice_absent (a := args d.val) good (readFin_num (by decide) d)
      (rosterFirst_absent ?_))
    rw [orderTaken_devices]
    exact absent
  · exact exec_queryDevice ready atOnce (ownQueryDevice_blind (a := args d.val) good (readFin_num (by decide) d) enrolled blind)
  · exact exec_queryDevice ready atOnce (ownQueryDevice_heard (a := args d.val) good (readFin_num (by decide) d) enrolled heard)
  · intro a
    exact ⟨exec_queryDevice ready atOnce (ownQueryDevice_bad (.inr (readFin_out_of_range large))),
      exec_queryMark ready atOnce (ownQueryMark_bad (.inr (readFin_out_of_range large)))⟩
  · intro a
    exact exec_queryTake ready atOnce (ownQueryTake_bad (.inr (readFin_out_of_range large)))

end Sys2Proof.Machine
end

section
/-! SUPPORT. The Jam Controller's starts (R63, R102 to R104): listener sets, burst requests, and JAM by its checks. -/

namespace Sys2Proof.Machine

open State

/-! ## Device sets and the listeners of an output (R102) -/

section
variable (x y : DeviceSet) (d e : DeviceId)

theorem inSet_single : inSet (single e) d = decide (e = d) := getLsbD_one_shift d e

theorem inSet_and : inSet (x &&& y) d = (inSet x d && inSet y d) := BitVec.getLsbD_and

theorem inSet_not : inSet (~~~ x) d = !inSet x d := by
  simp only [inSet, BitVec.getLsbD_not, d.isLt, decide_true, Bool.true_and]

theorem inSet_dropFrom : inSet (dropFrom x e) d = (inSet x d && !decide (e = d)) := by
  rw [dropFrom, inSet_and, inSet_not, inSet_single]

end

theorem listensTo_iff (s : State) (o : OutputId) (d : DeviceId) :
    s.listensTo o d = true ↔ ∃ y, s.devices[d] = some y ∧ y.settings.jamOutput = some o := by
  rw [listensTo, Option.any_eq_true]
  simp only [beq_iff_eq]

/-- R104: the run that a start makes. -/
def State.freshRun (s : State) (o : OutputId) (origin : RunOrigin) : Run :=
  { origin := origin, attempts := 1, phase := .requested, listeners := s.listeners o
    waiting := s.listeners o &&& ~~~ s.blindListeners o, ok := 0, failed := 0, blind := s.blindListeners o
    startFrame := s.clock.frame }

section
variable (s : State) (o : OutputId) (origin : RunOrigin) (d : DeviceId)

theorem mem_freshRun_listeners : inSet (s.freshRun o origin).listeners d = true ↔
    ∃ y, s.devices[d] = some y ∧ y.settings.jamOutput = some o :=
  (Bool.eq_iff_iff.mp (inSet_deviceSet _ d)).trans (listensTo_iff s o d)

theorem mem_freshRun_blind : inSet (s.freshRun o origin).blind d = true ↔
    ∃ y, s.devices[d] = some y ∧ y.settings.jamOutput = some o ∧ y.settings.input = none := by
  refine (Bool.eq_iff_iff.mp (inSet_deviceSet _ d)).trans ?_
  rw [Bool.and_eq_true, listensTo_iff]
  cases s.devices[d] <;> simp [Option.isNone_iff_eq_none]

theorem mem_freshRun_waiting : inSet (s.freshRun o origin).waiting d = true ↔
    ∃ y, s.devices[d] = some y ∧ y.settings.jamOutput = some o ∧ y.settings.input ≠ none := by
  have listens := mem_freshRun_listeners s o origin d
  have blind := mem_freshRun_blind s o origin d
  have waiting : inSet (s.freshRun o origin).waiting d = true ↔
      inSet (s.freshRun o origin).listeners d = true ∧ ¬ inSet (s.freshRun o origin).blind d = true := by
    rw [Bool.not_eq_true, ← Bool.not_eq_true', ← Bool.and_eq_true, ← inSet_not, ← inSet_and]
    rfl
  rw [waiting, listens, blind]
  cases s.devices[d] <;> simp
  tauto

/-- R102: the three sets of a fresh run: all listeners, those that name an input, and those that name none. -/
theorem mem_freshRun : (inSet (s.freshRun o origin).listeners d = true ↔
      ∃ y, s.devices[d] = some y ∧ y.settings.jamOutput = some o) ∧
    (inSet (s.freshRun o origin).waiting d = true ↔
      ∃ y, s.devices[d] = some y ∧ y.settings.jamOutput = some o ∧ y.settings.input ≠ none) ∧
    (inSet (s.freshRun o origin).blind d = true ↔ (∃ y, s.devices[d] = some y ∧ y.settings.jamOutput = some o) ∧
      ¬ ∃ y, s.devices[d] = some y ∧ y.settings.jamOutput = some o ∧ y.settings.input ≠ none) := by
  refine ⟨mem_freshRun_listeners s o origin d, mem_freshRun_waiting s o origin d, ?_⟩
  rw [mem_freshRun_blind]
  cases s.devices[d] <;> simp
  tauto

end

/-! ## Burst requests (R63) -/

theorem requestBurst_accepted {s : State} {o : OutputId} (moving : s.clock.state ≠ .stopped)
    (mode : s.outputs[o].settings.mode ≠ .off) (waking : s.outputs[o].state ≠ .waking)
    (bursting : s.outputs[o].state ≠ .bursting) (free : s.outputs[o].request = none) :
    s.requestBurst o = some (s.setOutput o { s.outputs[o] with request := some s.clock.frame }) :=
  if_pos ⟨(running_iff s).mpr moving, mode, waking, bursting, free⟩

theorem requestBurst_declined {s : State} {o : OutputId} (busy : s.outputs[o].settings.mode = .off ∨
    s.outputs[o].state = .waking ∨ s.outputs[o].state = .bursting ∨ s.outputs[o].request ≠ none) :
    s.requestBurst o = none := by
  refine if_neg ?_
  rintro ⟨_, mode, waking, bursting, free⟩
  rcases busy with h | h | h | h
  · exact mode h
  · exact waking h
  · exact bursting h
  · exact h free

/-! ## JAM (R103, R104) -/

section
variable {tk : Taking} {number : Word} {o : OutputId} {d : DeviceId} {s : State}

theorem readJam_output (named : o.val = number.toNat) : readJam 1 number = some (.output o) := by
  simp [readJam, readFin_of_val named]

theorem readJam_device (named : d.val = number.toNat) : readJam 0 number = some (.device d) := by
  simp [readJam, readFin_of_val named]

theorem jamOutput_stopped (stopped : s.clock.state = .stopped) : s.jamOutput (.output o) = .error .noClock := by
  simp [jamOutput, running_false stopped]

theorem jamOutput_off (moving : s.clock.state ≠ .stopped) (off : s.outputs[o].settings.mode = .off) :
    s.jamOutput (.output o) = .error .noPath := by
  simp only [jamOutput, (running_iff s).mpr moving, off]
  rfl

theorem jamOutput_on (moving : s.clock.state ≠ .stopped) (on : s.outputs[o].settings.mode ≠ .off) :
    s.jamOutput (.output o) = .ok o := by
  simp only [jamOutput, (running_iff s).mpr moving, if_neg on]
  rfl

theorem jamOutput_absent (absent : s.devices[d] = none) : s.jamOutput (.device d) = .error .noDevice := by
  simp only [jamOutput, absent]

theorem jamOutput_device_stopped {x : Device} (enrolled : s.devices[d] = some x) (stopped : s.clock.state = .stopped) :
    s.jamOutput (.device d) = .error .noClock := by
  simp [jamOutput, enrolled, running_false stopped]

theorem jamOutput_no_path {x : Device} (enrolled : s.devices[d] = some x) (moving : s.clock.state ≠ .stopped)
    (none : x.settings.jamOutput = none) : s.jamOutput (.device d) = .error .noPath := by
  simp [jamOutput, enrolled, (running_iff s).mpr moving, none]

theorem jamOutput_through {x : Device} (enrolled : s.devices[d] = some x) (path : x.settings.jamOutput = some o) :
    s.jamOutput (.device d) = s.jamOutput (.output o) := by
  simp only [jamOutput, enrolled, path]

theorem ownJam_refused {sel : Word} (bad : readJam sel number = none) : s.ownJam tk sel number = refuse .badArg s := by
  simp only [ownJam, bad]

theorem ownJam_no_output {sel : Word} {target : JamTarget} {code : ResultCode} (read : readJam sel number = some target)
    (none : s.jamOutput target = .error code) : s.ownJam tk sel number = refuse code s := by
  simp only [ownJam, read, none]

theorem ownJam_busy {sel : Word} {target : JamTarget} (read : readJam sel number = some target)
    (path : s.jamOutput target = .ok o) (busy : s.runs[o] ≠ none ∨ s.requestBurst o = none) :
    s.ownJam tk sel number = refuse .busy s := by
  cases run : s.runs[o] with
  | some r => simp only [ownJam, read, path, run, Option.isSome_some, if_true]
  | none =>
    have declined := busy.resolve_left fun h => h run
    simp only [ownJam, read, path, run, declined]
    rfl

/-- R104: a single-shot JAM starts a run and its completion waits for it. -/
theorem ownJam_starts {sel : Word} {target : JamTarget} {t : State} (read : readJam sel number = some target)
    (path : s.jamOutput target = .ok o) (free : s.runs[o] = none) (accepted : s.requestBurst o = some t)
    (once : tk.again = false) :
    s.ownJam tk sel number = (t.startRun o (.order tk.slot false tk.late true), .awaitsRun) := by
  simp only [ownJam, read, path, free, accepted, once]
  rfl

end

/-- A JAM row with timing 0, by what its owner answers. -/
theorem exec_jam {w : Nat} {n : SlotId} {t : Timing} {sel number : Word} {s s' : State} {code : ResultCode} {reply record}
    (ready : (upTo w s).bus.ready = true) (atOnce : t.timing = 0)
    (answer : (orderTaken n t (.jam sel number) (upTo w s)).ownJam
      { slot := n, fired := false, again := false, late := false } sel number = (s', .completes code reply record)) :
    exec (.jam w n t sel number) s = .next (completeSlot n code reply record s') :=
  exec_orderRow_completes (o := .jam sel number) rfl ready atOnce answer

theorem exec_jam_awaits {w : Nat} {n : SlotId} {t : Timing} {sel number : Word} {s s' : State}
    (ready : (upTo w s).bus.ready = true) (atOnce : t.timing = 0)
    (answer : (orderTaken n t (.jam sel number) (upTo w s)).ownJam
      { slot := n, fired := false, again := false, late := false } sel number = (s', .awaitsRun)) :
    exec (.jam w n t sel number) s = .next s' := by
  rw [exec_orderRow_atOnce (o := .jam sel number) rfl ready atOnce]
  exact congrArg _ (carryOut_awaits (o := .jam sel number) answer)

/-- Settles O49: a JAM on an output by R103's checks, and a JAM on a device as one on its jam output. -/
theorem jamStartsARun : Obligations.JamStartsARun := by
  refine ⟨fun w n t number s => ?_, fun tk number v => ⟨fun bad => ?_, fun d named => ⟨fun absent => ?_, fun x enrolled =>
    ⟨fun stopped => ?_, fun moving none => ?_, fun o path => ?_⟩⟩, fun sel bad => ?_⟩⟩
  · intro v ready atOnce
    have completes {s' : State} {code : ResultCode} (answer : v.ownJam
        { slot := n, fired := false, again := false, late := false } 1 number = (s', .completes code Reply.zero none)) :
        exec (.jam w n t 1 number) s = .next (completeSlot n code Reply.zero none s') := exec_jam ready atOnce answer
    have awaits {s' : State} (answer : v.ownJam
        { slot := n, fired := false, again := false, late := false } 1 number = (s', .awaitsRun)) :
        exec (.jam w n t 1 number) s = .next s' := exec_jam_awaits ready atOnce answer
    clear_value v
    refine ⟨fun bad => completes (ownJam_refused (by simp [readJam, readFin_out_of_range bad])), fun o named => ?_⟩
    intro x listens heard
    have read := readJam_output named
    refine ⟨fun stopped => completes (ownJam_no_output read (jamOutput_stopped stopped)),
      fun moving off => completes (ownJam_no_output read (jamOutput_off moving off)),
      fun moving on busy => completes (ownJam_busy read (jamOutput_on moving on) (busy.imp_right fun h =>
        requestBurst_declined (.inr h))), fun moving on free waking bursting request => ?_⟩
    have accepted := requestBurst_accepted moving on waking bursting request
    have starts := awaits (ownJam_starts read (jamOutput_on moving on) free accepted rfl)
    refine ⟨_, starts, rfl, rfl, rfl, rfl, rfl, rfl, fun d => mem_freshRun v o _ d⟩
  · exact ownJam_refused (by simp [readJam, readFin_out_of_range bad])
  · exact ownJam_no_output (readJam_device named) (jamOutput_absent absent)
  · exact ownJam_no_output (readJam_device named) (jamOutput_device_stopped enrolled stopped)
  · exact ownJam_no_output (readJam_device named) (jamOutput_no_path enrolled moving none)
  · simp only [ownJam, readJam_device named, readJam_output (toNat_num_val (by decide) o).symm, jamOutput_through enrolled path]
  · refine ownJam_refused ?_
    have zero : ¬ sel = 0 := by bv_omega
    have one : ¬ sel = 1 := by bv_omega
    rw [readJam, if_neg zero, if_neg one]

end Sys2Proof.Machine
end

section
/-! SUPPORT. What a change hands to the Report Writer (R174): the reports it appends while the queue has room, for one change,
for a chain of them, and for a change made for each number; and a change that touches one number alone. -/

namespace Sys2Proof.Machine

open State

/-! ## The reports a change hands (R174) -/

/-- From s to t these reports have been handed, in this order: each joins the queue when all find room. -/
structure HandsReports (s t : State) (reports : List Report) : Prop where
  bus : t.bus = s.bus
  queue : s.bus.ready = true → reportsWaiting s.writer.queue + reports.length ≤ 64 →
    t.writer.queue = s.writer.queue ++ reports.map .report
  accepted : s.bus.ready = true → reportsWaiting s.writer.queue + reports.length ≤ 64 →
    t.writer.accepted = s.writer.accepted + BitVec.ofNat 32 reports.length

theorem reportsWaiting_append_reports (queue : List QueueItem) (reports : List Report) :
    reportsWaiting (queue ++ reports.map .report) = reportsWaiting queue + reports.length := by
  induction reports generalizing queue with
  | nil => simp
  | cons r rest ih =>
    rw [List.map_cons, List.append_cons, ih, reportsWaiting_append_report, List.length_cons]
    omega

theorem handsReports_none {s t : State} (bus : t.bus = s.bus) (writer : t.writer = s.writer) : HandsReports s t [] where
  bus := bus
  queue _ _ := by rw [writer, List.map_nil, List.append_nil]
  accepted _ _ := by
    rw [writer, List.length_nil]
    exact (BitVec.add_zero _).symm

theorem handsReports_self (s : State) : HandsReports s s [] := handsReports_none rfl rfl

theorem handsReports_handReport (s : State) (r : Report) : HandsReports s (s.handReport r) [r] where
  bus := handReport_bus s r
  queue ready room := handReport_queue ready room
  accepted ready room := by
    rw [handReport_accepted ready room]
    rfl

theorem HandsReports.trans {s t u : State} {a b : List Report} (first : HandsReports s t a) (second : HandsReports t u b) :
    HandsReports s u (a ++ b) := by
  have room (h : reportsWaiting s.writer.queue + (a ++ b).length ≤ 64) :
      reportsWaiting s.writer.queue + a.length ≤ 64 ∧ reportsWaiting (s.writer.queue ++ a.map .report) + b.length ≤ 64 := by
    rw [List.length_append] at h
    rw [reportsWaiting_append_reports]
    omega
  refine ⟨second.bus.trans first.bus, fun ready h => ?_, fun ready h => ?_⟩ <;>
    obtain ⟨roomA, roomB⟩ := room h <;>
    have queue := first.queue ready roomA <;>
    rw [← queue] at roomB <;>
    rw [← first.bus] at ready
  · rw [second.queue ready roomB, queue, List.map_append, List.append_assoc]
  · rw [second.accepted ready roomB, first.accepted (first.bus ▸ ready) roomA, List.length_append, BitVec.ofNat_add, add_assoc]

/-- A change that touches neither READY nor the writer hands nothing more. -/
theorem HandsReports.then_none {s t u : State} {a : List Report} (first : HandsReports s t a) (bus : u.bus = t.bus)
    (writer : u.writer = t.writer) : HandsReports s u a := by
  have whole := first.trans (handsReports_none bus writer)
  rwa [List.append_nil] at whole

/-- A change made for each number, each handing what its own item calls for. -/
theorem handsReports_forEach {α : Type} {n : Nat} {f : Fin n → State → State} {item : Fin n → State → α}
    {reports : Fin n → List Report} (inv : State → Prop) (kept : ∀ i s, inv s → inv (f i s))
    (other : ∀ i j s, i ≠ j → inv s → item j (f i s) = item j s) (s : State) (h : inv s)
    (own : ∀ i t, inv t → item i t = item i s → HandsReports t (f i t) (reports i)) :
    HandsReports s (forEach n f s) ((List.finRange n).flatMap reports) := by
  have folded_hands (l : List (Fin n)) (nodup : l.Nodup) (t : State) (ht : inv t) (same : ∀ i ∈ l, item i t = item i s) :
      HandsReports t (l.foldl (fun s i => f i s) t) (l.flatMap reports) := by
    induction l generalizing t with
    | nil => exact handsReports_self t
    | cons i rest ih =>
      obtain ⟨fresh, nodup⟩ := List.nodup_cons.mp nodup
      have apart {j : Fin n} (hj : j ∈ rest) : i ≠ j := fun h => fresh (h ▸ hj)
      rw [List.foldl_cons, List.flatMap_cons]
      refine (own i t ht (same i List.mem_cons_self)).trans (ih nodup (f i t) (kept i t ht) fun j hj => ?_)
      rw [other i j t (apart hj) ht]
      exact same j (List.mem_cons_of_mem i hj)
  exact folded_hands (List.finRange n) (List.nodup_finRange n) s h fun _ _ => rfl

/-- A change made for each number that acts for one number alone. -/
theorem forEach_only {n : Nat} {f : Fin n → State → State} {o : Fin n} {s t : State} (before : ∀ i, i ≠ o → f i s = s)
    (acts : f o s = t) (after : ∀ i, i ≠ o → f i t = t) : forEach n f s = t := by
  have rest (l : List (Fin n)) (fresh : o ∉ l) : l.foldl (fun s i => f i s) t = t := by
    induction l with
    | nil => rfl
    | cons i l ih =>
      rw [List.foldl_cons, after i fun h => fresh (h ▸ List.mem_cons_self)]
      exact ih fun h => fresh (List.mem_cons_of_mem i h)
  have whole (l : List (Fin n)) (nodup : l.Nodup) (mem : o ∈ l) : l.foldl (fun s i => f i s) s = t := by
    induction l with
    | nil => cases mem
    | cons i l ih =>
      obtain ⟨fresh, nodup⟩ := List.nodup_cons.mp nodup
      rw [List.foldl_cons]
      by_cases here : i = o
      · subst here
        rw [acts]
        exact rest l fresh
      · rw [before i here]
        exact ih nodup ((List.mem_cons.mp mem).resolve_left fun h => here h.symm)
  exact whole (List.finRange n) (List.nodup_finRange n) (List.mem_finRange o)

/-- A change made for each number that does nothing for any. -/
theorem forEach_none {n : Nat} {f : Fin n → State → State} {s : State} (none : ∀ i, f i s = s) : forEach n f s = s := by
  have whole (l : List (Fin n)) : l.foldl (fun s i => f i s) s = s := by
    induction l with
    | nil => rfl
    | cons i l ih => rw [List.foldl_cons, none i, ih]
  exact whole (List.finRange n)

end Sys2Proof.Machine
end

section
/-! SUPPORT. The runs of the Jam Controller (R105 to R117): the notices of a burst, the expiry of the verify windows, the words of
JAMMING listeners, leave notices, the end of a run and the automatic check. -/

namespace Sys2Proof.Machine

open State

/-! ## Listeners enter JAMMING (R105, R106) -/

/-- R105: the record of a listener as a burst begins. -/
def Device.jammed (x : Device) : Device :=
  { x with state := .jamming, validRun := 0, windowCount := 0, lastOffset := none }

theorem enterJamming_none {s : State} {d : DeviceId} (absent : s.devices[d] = none) : enterJamming d s = s := by
  simp only [enterJamming, absent]

theorem enterJamming_stays {s : State} {d : DeviceId} {x : Device} (enrolled : s.devices[d] = some x)
    (state : x.state = .jamming) : enterJamming d s = s := by
  simp only [enterJamming, enrolled, if_pos state]

theorem enterJamming_moves {s : State} {d : DeviceId} {x : Device} (enrolled : s.devices[d] = some x)
    (state : x.state ≠ .jamming) : enterJamming d s = (s.setDevice d (some x.jammed)).handReport
      { position := s.here, urgent := false
        body := .deviceState d (some x.state) (some .jamming) .jamStart x.strikes none 0 } := by
  simp only [enterJamming, enrolled, if_neg state]
  exact moveDevice_quiet (by simp)

/-- A step of the roster's records: it touches them, the output queue and the store. -/
def RecordsMoved (s t : State) : Prop := ∃ devices writer store, t = { s with devices := devices, writer := writer, store := store }

theorem recordsMoved_self (s : State) : RecordsMoved s s := ⟨_, _, _, rfl⟩

theorem recordsMoved_setDevice {s t : State} (d : DeviceId) (x : Option Device) (h : RecordsMoved s t) :
    RecordsMoved s (t.setDevice d x) := by
  obtain ⟨_, _, _, rfl⟩ := h
  exact ⟨_, _, _, rfl⟩

theorem recordsMoved_handReport {s t : State} (r : Report) (h : RecordsMoved s t) : RecordsMoved s (t.handReport r) := by
  obtain ⟨_, _, _, rfl⟩ := h
  rw [handReport_frame]
  exact ⟨_, _, _, rfl⟩

theorem recordsMoved_enterJamming {s t : State} (d : DeviceId) (h : RecordsMoved s t) : RecordsMoved s (enterJamming d t) := by
  cases enrolled : t.devices[d] with
  | none => rw [enterJamming_none enrolled]; exact h
  | some x =>
    by_cases state : x.state = .jamming
    · rw [enterJamming_stays enrolled state]
      exact h
    · rw [enterJamming_moves enrolled state]
      exact recordsMoved_handReport _ (recordsMoved_setDevice d _ h)

theorem enterJamming_devices (s : State) (d : DeviceId) : (enterJamming d s).devices =
    s.devices.set d (s.devices[d].map fun x => if x.state = .jamming then x else x.jammed) := by
  cases enrolled : s.devices[d] with
  | none =>
    rw [enterJamming_none enrolled, Option.map_none, ← enrolled]
    exact (Vector.set_getElem_self _).symm
  | some x =>
    by_cases state : x.state = .jamming
    · rw [enterJamming_stays enrolled state, Option.map_some, if_pos state, ← enrolled]
      exact (Vector.set_getElem_self _).symm
    · rw [enterJamming_moves enrolled state, Option.map_some, if_neg state, handReport_devices, setDevice_devices]

/-- R105: the records once a burst has begun for these listeners. -/
def State.jamListeners (waiting : DeviceSet) (s : State) : State :=
  forEach 16 (fun d s => if inSet waiting d then enterJamming d s else s) s

theorem recordsMoved_jamListeners (waiting : DeviceSet) (s : State) : RecordsMoved s (s.jamListeners waiting) := by
  refine Kept.forEach (P := RecordsMoved s) 16 (fun d t h => ?_) (recordsMoved_self s)
  split
  · exact recordsMoved_enterJamming d h
  · exact h

theorem jamListener_devices (waiting : DeviceSet) (d : DeviceId) (t : State) :
    (if inSet waiting d then enterJamming d t else t).devices = t.devices.set d
      (if inSet waiting d then t.devices[d].map fun x => if x.state = .jamming then x else x.jammed else t.devices[d]) := by
  by_cases waits : inSet waiting d = true
  · rw [if_pos waits, if_pos waits, enterJamming_devices]
  · rw [if_neg waits, if_neg waits]
    exact (Vector.set_getElem_self _).symm

theorem jamListeners_devices (waiting : DeviceSet) (s : State) (d : DeviceId) : (s.jamListeners waiting).devices[d] =
    if inSet waiting d then s.devices[d].map fun x => if x.state = .jamming then x else x.jammed else s.devices[d] :=
  forEach_items (f := fun d s => if inSet waiting d then enterJamming d s else s) (item := fun d (t : State) => t.devices[d])
    (fun _ => True) (fun _ _ _ => trivial)
    (fun d e t apart _ => by
      rw [jamListener_devices]
      exact Vector.getElem_set_ne _ _ fun h => apart (Fin.ext h))
    s trivial
    (fun d t _ own => by
      rw [jamListener_devices, own]
      exact Vector.getElem_set_self _)
    d

theorem burstBegun_eq {s : State} {o : OutputId} {r : Run} (run : s.runs[o] = some r) : burstBegun o s =
    ((s.setRun o (some { r with phase := .sending })).jamListeners r.waiting).jammedNotice r.listeners := by
  simp only [burstBegun, run]
  rfl

theorem burstBegun_frame {s : State} {o : OutputId} {r : Run} (run : s.runs[o] = some r) : ∃ devices writer store,
    burstBegun o s = (State.jammedNotice { s with
      runs := s.runs.set o (some { r with phase := .sending })
      devices := devices, writer := writer, store := store } r.listeners) := by
  obtain ⟨devices, writer, store, frame⟩ := recordsMoved_jamListeners r.waiting (s.setRun o (some { r with phase := .sending }))
  exact ⟨devices, writer, store, by rw [burstBegun_eq run, frame]; rfl⟩

theorem mapOpen_open {p : Take → Bool} {f : Take → Take} {g : Group} {k : Take} (isOpen : g.current = some k) (h : p k = true) :
    Group.mapOpen p f g = { g with take := some (f k) } := by
  simp only [Group.mapOpen, isOpen, h, if_true]

theorem setRun_own (s : State) (o : OutputId) (r : Option Run) : (s.setRun o r).runs[o] = r := Vector.getElem_set_self _

theorem burstBegun_notice {s : State} {o : OutputId} {r : Run} (run : s.runs[o] = some r) :
    (burstBegun o s).runs[o] = some { r with phase := .sending } ∧
      (∀ (d : DeviceId) (x : Device), s.devices[d] = some x →
        (inSet r.waiting d = true → x.state ≠ .jamming → (burstBegun o s).devices[d] = some
          { x with state := .jamming, validRun := 0, windowCount := 0, lastOffset := none }) ∧
        (inSet r.waiting d = false ∨ x.state = .jamming → (burstBegun o s).devices[d] = some x)) ∧
      (∀ (g : GroupId) (k : Take), s.groups[g].current = some k → k.listsAny r.listeners = true →
        (burstBegun o s).groups[g].take = some { k with flags := { k.flags with jammed := true } }) ∧
      (burstBegun o s).clock = s.clock ∧ (burstBegun o s).outputs = s.outputs ∧
      (burstBegun o s).inputs = s.inputs ∧ (burstBegun o s).marks = s.marks ∧
      (burstBegun o s).schedule = s.schedule := by
  have records (d : DeviceId) : (burstBegun o s).devices[d] =
      if inSet r.waiting d then s.devices[d].map fun x => if x.state = .jamming then x else x.jammed else s.devices[d] := by
    rw [burstBegun_eq run]
    exact jamListeners_devices r.waiting _ d
  obtain ⟨_, _, _, frame⟩ := burstBegun_frame run
  refine ⟨?_, fun d x enrolled => ⟨fun waiting state => ?_, fun h => ?_⟩, fun g k isOpen listed => ?_, ?_, ?_, ?_, ?_, ?_⟩
  · rw [frame]
    exact Vector.getElem_set_self _
  · rw [records, if_pos waiting, enrolled, Option.map_some, if_neg state]
    rfl
  · rw [records, enrolled, Option.map_some]
    rcases h with idle | state
    · rw [if_neg (by rw [idle]; decide)]
    · rw [if_pos state, ite_self]
  · rw [frame]
    have mapped : (s.groups.map (Group.mapOpen (fun t => t.listsAny r.listeners)
        fun t => { t with flags := { t.flags with jammed := true } }))[g] = _ := Vector.getElem_map _ _
    exact (congrArg Group.take (mapped.trans (mapOpen_open isOpen listed)))
  all_goals
    rw [frame]
    rfl

/-! ## The end of a burst and the expiry (R107, R109, R112) -/

theorem burstEnd_pending {s : State} {o : OutputId} {r : Run} (run : s.runs[o] = some r) (pending : r.waiting ≠ 0) :
    burstEnd o s = s.setRun o (some { r with
      phase := .verifying (s.clock.frame + BitVec.ofNat 32 s.outputs[o].settings.verify) }) := by
  simp only [burstEnd, run, if_neg pending]
  rfl

theorem burstEnd_none {s : State} {o : OutputId} {r : Run} (run : s.runs[o] = some r) (none : r.waiting = 0) :
    burstEnd o s = endRun o .complete s := by
  simp only [burstEnd, run, if_pos none]

theorem expiryDue_of {s : State} {o : OutputId} {r : Run} (moving : s.clock.state ≠ .stopped) (run : s.runs[o] = some r)
    (phase : r.phase = .verifying s.clock.frame) : s.isDue (.verifyExpiry o) = true := by
  simp only [isDue, expiryDue, (running_iff s).mpr moving, run, Option.any_some, phase, Bool.true_and]
  exact beq_self_eq_true _

theorem verifyExpiry_again {s t : State} {o : OutputId} {r : Run} (run : s.runs[o] = some r)
    (more : r.attempts < s.outputs[o].settings.attempts) (accepted : s.requestBurst o = some t) :
    verifyExpiry o s = t.setRun o (some { r with attempts := r.attempts + 1, phase := .requested }) := by
  simp only [verifyExpiry, run, if_pos more, accepted]

theorem verifyExpiry_ends {s : State} {o : OutputId} {r : Run} (run : s.runs[o] = some r)
    (limit : s.outputs[o].settings.attempts ≤ r.attempts) : verifyExpiry o s = endRun o .complete s := by
  simp only [verifyExpiry, run, if_neg (Nat.not_lt.mpr limit)]

/-! ## The words of JAMMING listeners (R86, R106, R108) -/

theorem isVerifying_iff (r : Run) : Run.isVerifying r = true ↔ ∃ f, r.phase = .verifying f := by
  cases h : r.phase <;> simp [Run.isVerifying, h]

theorem rosterWord_jamming {s : State} {d : DeviceId} {x : Device} {w : TimeWord} {delay : Nat}
    (enrolled : s.devices[d] = some x) (moving : s.clock.state ≠ .stopped) (state : x.state = .jamming) :
    rosterWord d w delay s = jamWord d
      (if w.rate = s.clock.rate then some (wordOffset s.clock.startCount s.clock.rate w.label s.here delay) else none)
      (s.setDevice d (some { x with sinceWord := 0 })) := by
  simp only [rosterWord, enrolled, (running_iff s).mpr moving, state, beq_iff_eq]
  rfl

/-- R108: the record of a verified listener. -/
def Device.verified (x : Device) (v : Int) (f : FrameNo) : Device :=
  { x with state := .tracking, strikes := 0, validRun := 0, windowOffset := v, windowFrame := f, windowCount := 0
           lastOffset := some v, sinceWord := 0, jamWanted := false }

section
variable {s : State} {d : DeviceId} {x : Device} {o : OutputId} {r : Run} {v : Int}
  (enrolled : s.devices[d] = some x) (path : x.settings.jamOutput = some o) (run : s.runs[o] = some r)
include enrolled

theorem jamWord_no_offset : jamWord d none s = s := by simp only [jamWord, enrolled]

include path run

theorem jamWord_aside (aside : ¬ ((∃ f, r.phase = .verifying f) ∧ inSet r.waiting d = true ∧ v.natAbs ≤ x.settings.soft)) :
    jamWord d (some v) s = s := by
  have refused : ¬ (Run.isVerifying r && inSet r.waiting d && decide (v.natAbs ≤ x.settings.soft)) = true := by
    rw [Bool.and_eq_true, Bool.and_eq_true, isVerifying_iff, decide_eq_true_eq, and_assoc]
    exact aside
  simp only [jamWord, enrolled, path, run, if_neg refused]

theorem jamWord_verifies (open_ : ∃ f, r.phase = .verifying f) (waiting : inSet r.waiting d = true)
    (within : v.natAbs ≤ x.settings.soft) {t : State}
    (verified : (((s.setRun o (some { r with waiting := dropFrom r.waiting d, ok := addTo r.ok d })).setDevice d
      (some (x.verified v s.here.frame))).handReport
        { position := s.here, urgent := false
          body := .deviceState d (some .jamming) (some .tracking) .verified 0 (some v) 0 }) = t) :
    jamWord d (some v) s = if dropFrom r.waiting d = 0 then endRun o .complete t else t := by
  have accepted : (Run.isVerifying r && inSet r.waiting d && decide (v.natAbs ≤ x.settings.soft)) = true := by
    rw [Bool.and_eq_true, Bool.and_eq_true, isVerifying_iff, decide_eq_true_eq]
    exact ⟨⟨open_, waiting⟩, within⟩
  subst verified
  simp only [jamWord, enrolled, path, run, if_pos accepted]
  rw [moveDevice_quiet (by simp)]
  rfl

end

theorem setDevice_own (s : State) (d : DeviceId) (x : Option Device) : (s.setDevice d x).devices[d] = x := Vector.getElem_set_self _

/-! ## Leave notices (R113) -/

theorem leaveRun_no_run {s : State} {d : DeviceId} {o : OutputId} (none : s.runs[o] = none) : leaveRun d o s = s := by
  simp only [leaveRun, none]

theorem leaveRun_other {s : State} {d : DeviceId} {o : OutputId} {r : Run} (run : s.runs[o] = some r)
    (other : inSet r.listeners d = false) : leaveRun d o s = s := by
  simp only [leaveRun, run, other]
  rfl

theorem leaveRun_leaves {s : State} {d : DeviceId} {o : OutputId} {r : Run} (run : s.runs[o] = some r)
    (listens : inSet r.listeners d = true) (stays : ¬ ((∃ f, r.phase = .verifying f) ∧ inSet r.waiting d = true ∧
      dropFrom r.waiting d = 0)) : leaveRun d o s = s.setRun o (some (Run.without r d)) := by
  have goes_on : ¬ (Run.isVerifying r && inSet r.waiting d && decide ((Run.without r d).waiting = 0)) = true := by
    rw [Bool.and_eq_true, Bool.and_eq_true, isVerifying_iff, decide_eq_true_eq, and_assoc]
    exact stays
  simp only [leaveRun, run, if_pos listens, if_neg goes_on]

theorem leaveRun_ends {s : State} {d : DeviceId} {o : OutputId} {r : Run} {f : FrameNo} (run : s.runs[o] = some r)
    (phase : r.phase = .verifying f) (listens : inSet r.listeners d = true) (waits : inSet r.waiting d = true)
    (last : dropFrom r.waiting d = 0) :
    leaveRun d o s = endRun o .complete (s.setRun o (some (Run.without r d))) := by
  have ends : (Run.isVerifying r && inSet r.waiting d && decide ((Run.without r d).waiting = 0)) = true := by
    rw [Bool.and_eq_true, Bool.and_eq_true, isVerifying_iff, decide_eq_true_eq]
    exact ⟨⟨⟨f, phase⟩, waits⟩, last⟩
  simp only [leaveRun, run, if_pos listens, if_pos ends]

/-! ## The automatic check (R102, R116) -/

/-- R116: when an automatic check starts a run. -/
def State.AutoStarts (s : State) (o : OutputId) : Prop :=
  s.clock.state ≠ .stopped ∧ s.runs[o] = none ∧ s.outputs[o].settings.mode ≠ .off ∧
    (∃ (d : DeviceId) (y : Device), s.devices[d] = some y ∧ y.settings.jamOutput = some o ∧ y.jamWanted = true) ∧
    (¬ ∃ (d : DeviceId) (y : Device) (g : GroupId) (k : Take), s.devices[d] = some y ∧
      y.settings.jamOutput = some o ∧ y.settings.policy = .deferInTake ∧ s.groups[g].current = some k ∧
      k.lists d = true) ∧
    s.outputs[o].state ≠ .waking ∧ s.outputs[o].state ≠ .bursting ∧ s.outputs[o].request = none

theorem any_device_iff (p : DeviceId → Bool) : ((List.finRange 16).any p) = true ↔ ∃ d, p d = true := by
  simp

theorem inOpenTake_iff (s : State) (d : DeviceId) : s.inOpenTake d = true ↔
    ∃ (g : GroupId) (k : Take), s.groups[g].current = some k ∧ k.lists d = true := by
  rw [inOpenTake, List.any_eq_true]
  simp only [List.mem_finRange, true_and, Option.any_eq_true]

theorem autoAllowed_iff (s : State) (o : OutputId) : s.autoAllowed o = true ↔
    s.clock.state ≠ .stopped ∧ s.runs[o] = none ∧ s.outputs[o].settings.mode ≠ .off ∧
      (∃ (d : DeviceId) (y : Device), s.devices[d] = some y ∧ y.settings.jamOutput = some o ∧ y.jamWanted = true) ∧
      ¬ ∃ (d : DeviceId) (y : Device) (g : GroupId) (k : Take), s.devices[d] = some y ∧
        y.settings.jamOutput = some o ∧ y.settings.policy = .deferInTake ∧ s.groups[g].current = some k ∧
        k.lists d = true := by
  have wants (d : DeviceId) : (s.listensTo o d && s.devices[d].any fun x => x.jamWanted) = true ↔
      ∃ y, s.devices[d] = some y ∧ y.settings.jamOutput = some o ∧ y.jamWanted = true := by
    rw [Bool.and_eq_true, listensTo_iff]
    cases s.devices[d] <;> simp
  have defers (d : DeviceId) : (s.listensTo o d && s.inOpenTake d &&
      s.devices[d].any fun x => x.settings.policy == .deferInTake) = true ↔
      ∃ (y : Device) (g : GroupId) (k : Take), s.devices[d] = some y ∧ y.settings.jamOutput = some o ∧
        y.settings.policy = .deferInTake ∧ s.groups[g].current = some k ∧ k.lists d = true := by
    rw [Bool.and_eq_true, Bool.and_eq_true, listensTo_iff, inOpenTake_iff]
    cases s.devices[d] <;> simp
    tauto
  rw [autoAllowed, Bool.and_eq_true, Bool.and_eq_true, Bool.and_eq_true, Bool.and_eq_true, running_iff,
    Option.isNone_iff_eq_none, decide_eq_true_eq, Bool.not_eq_true', ← Bool.not_eq_true, any_device_iff, any_device_iff]
  simp only [wants, defers, and_assoc]

theorem autoCheck_starts {s : State} {o : OutputId} (starts : s.AutoStarts o) : autoCheck o s =
    { s with outputs := s.outputs.set o { s.outputs[o] with request := some s.clock.frame }
             runs := s.runs.set o (some (s.freshRun o .auto)) } := by
  obtain ⟨moving, free, mode, wanted, undeferred, waking, bursting, request⟩ := starts
  have allowed : s.autoAllowed o = true := (autoAllowed_iff s o).mpr ⟨moving, free, mode, wanted, undeferred⟩
  simp only [autoCheck, if_pos allowed, requestBurst_accepted moving mode waking bursting request]
  rfl

theorem autoCheck_idle {s : State} {o : OutputId} (idle : ¬ s.AutoStarts o) : autoCheck o s = s := by
  rw [autoCheck]
  split
  · next allowed =>
    obtain ⟨moving, free, mode, wanted, undeferred⟩ := (autoAllowed_iff s o).mp allowed
    have declined : s.requestBurst o = none := requestBurst_declined (by
      by_contra h
      push Not at h
      exact idle ⟨moving, free, mode, wanted, undeferred, h.2.1, h.2.2.1, h.2.2.2⟩)
    rw [declined]
  · rfl

/-- With no device's jam-wanted flag set an automatic check starts nothing. -/
theorem autoCheck_unwanted {s : State} (o : OutputId)
    (none : ∀ (d : DeviceId) (x : Device), s.devices[d] = some x → x.jamWanted = false) : autoCheck o s = s := by
  refine autoCheck_idle fun ⟨_, _, _, ⟨d, y, enrolled, _, wanted⟩, _⟩ => ?_
  rw [none d y enrolled] at wanted
  exact Bool.noConfusion wanted

end Sys2Proof.Machine
end

section
/-! SUPPORT. The end of a run (R110, R111): its pending listeners fail, what it hands to the Report Writer, and the statement about
runs and their bursts. -/

namespace Sys2Proof.Machine

open State

/-! ## Listeners that fail (R110) -/

/-- R110: the record of a JAMMING listener that fails. -/
def Device.failed (x : Device) : Device :=
  { x with state := .adrift, validRun := 0, lastOffset := none, sinceWord := 0, jamWanted := false }

/-- R110: a pending listener's record at the run's end. -/
def Device.afterRun (x : Device) : Device := if x.state = .jamming then x.failed else { x with jamWanted := false }

theorem failListener_none {s : State} {d : DeviceId} (absent : s.devices[d] = none) : failListener d s = s := by
  simp only [failListener, absent]

theorem failListener_free {s : State} {d : DeviceId} {x : Device} (enrolled : s.devices[d] = some x) (state : x.state ≠ .jamming) :
    failListener d s = s.setDevice d (some { x with jamWanted := false }) := by
  simp only [failListener, enrolled, if_neg state]

theorem failListener_jamming {s : State} {d : DeviceId} {x : Device} (enrolled : s.devices[d] = some x)
    (state : x.state = .jamming) : failListener d s = s.moveDevice d .jamming x.failed .jamFailed none 0 := by
  simp only [failListener, enrolled, if_pos state]
  rfl

theorem failListener_devices (s : State) (d : DeviceId) :
    (failListener d s).devices = s.devices.set d (s.devices[d].map Device.afterRun) := by
  cases enrolled : s.devices[d] with
  | none =>
    rw [failListener_none enrolled, Option.map_none, ← enrolled]
    exact (Vector.set_getElem_self _).symm
  | some x =>
    rw [Option.map_some, Device.afterRun]
    by_cases state : x.state = .jamming
    · rw [failListener_jamming enrolled state, if_pos state, moveDevice_frame]
    · rw [failListener_free enrolled state, if_neg state]
      rfl

theorem rosterMoved_failListener {s t : State} (d : DeviceId) (h : RosterMoved s t) : RosterMoved s (failListener d t) := by
  cases enrolled : t.devices[d] with
  | none => rw [failListener_none enrolled]; exact h
  | some x =>
    by_cases state : x.state = .jamming
    · rw [failListener_jamming enrolled state]
      exact rosterMoved_moveDevice _ _ _ _ _ _ h
    · rw [failListener_free enrolled state]
      obtain ⟨_, _, _, _, rfl⟩ := h
      exact ⟨_, _, _, _, rfl⟩

/-- R110: the report of a listener's failing, when it was JAMMING. -/
def failReports (s : State) (waiting : DeviceSet) (d : DeviceId) : Option Report :=
  (s.devices[d].filter fun x => inSet waiting d && x.state == .jamming).map fun x =>
    { position := s.here, urgent := false
      body := .deviceState d (some .jamming) (some .adrift) .jamFailed x.strikes none 0 }

theorem rosterMoved_here {s t : State} (h : RosterMoved s t) : t.here = s.here := by
  obtain ⟨_, _, _, _, rfl⟩ := h
  rfl

theorem failListener_hands {s t : State} {waiting : DeviceSet} {d : DeviceId} (waits : inSet waiting d = true)
    (here : t.here = s.here) (same : t.devices[d] = s.devices[d]) :
    HandsReports t (failListener d t) (failReports s waiting d).toList := by
  rw [failReports, ← same, waits]
  cases enrolled : t.devices[d] with
  | none =>
    rw [failListener_none enrolled]
    exact handsReports_self t
  | some x =>
    by_cases state : x.state = .jamming
    · have jamming : (Option.some x).filter (fun x => true && x.state == .jamming) = some x := by simp [state]
      rw [failListener_jamming enrolled state, moveDevice_suspect (.inl rfl), jamming, ← here]
      exact ((handsReports_none (s := t) (t := t.setDevice d (some x.failed)) rfl rfl).trans (handsReports_handReport _ _)).then_none rfl rfl
    · have free : (Option.some x).filter (fun x => true && x.state == .jamming) = none := by simp [state]
      rw [failListener_free enrolled state, free]
      exact handsReports_none rfl rfl

section
variable (waiting : DeviceSet) (s : State)

/-- One step of R110. -/
theorem failWaiting_step_devices (d : DeviceId) (t : State) : (if inSet waiting d then failListener d t else t).devices =
    t.devices.set d (if inSet waiting d then t.devices[d].map Device.afterRun else t.devices[d]) := by
  by_cases waits : inSet waiting d = true
  · rw [if_pos waits, if_pos waits, failListener_devices]
  · rw [if_neg waits, if_neg waits]
    exact (Vector.set_getElem_self _).symm

theorem rosterMoved_failWaiting_step (d : DeviceId) {t : State} (h : RosterMoved s t) :
    RosterMoved s (if inSet waiting d then failListener d t else t) := by
  split
  · exact rosterMoved_failListener d h
  · exact h

theorem failWaiting_step_other (d e : DeviceId) (t : State) (apart : d ≠ e) :
    (if inSet waiting d then failListener d t else t).devices[e] = t.devices[e] := by
  rw [failWaiting_step_devices]
  exact Vector.getElem_set_ne _ _ fun h => apart (Fin.ext h)

theorem rosterMoved_failWaiting : RosterMoved s (failWaiting waiting s) :=
  Kept.forEach (P := RosterMoved s) 16 (fun d _ h => rosterMoved_failWaiting_step waiting s d h) (rosterMoved_self s)

theorem failWaiting_devices (d : DeviceId) : (failWaiting waiting s).devices[d] =
    if inSet waiting d then s.devices[d].map Device.afterRun else s.devices[d] :=
  forEach_items (f := fun d s => if inSet waiting d then failListener d s else s) (item := fun d (t : State) => t.devices[d])
    (fun _ => True) (fun _ _ _ => trivial) (fun d e t apart _ => failWaiting_step_other waiting d e t apart) s trivial
    (fun d t _ own => by
      rw [failWaiting_step_devices, own]
      exact Vector.getElem_set_self _)
    d

theorem failWaiting_hands : HandsReports s (failWaiting waiting s)
    ((List.finRange 16).flatMap fun d => (failReports s waiting d).toList) :=
  handsReports_forEach (f := fun d s => if inSet waiting d then failListener d s else s)
    (item := fun d (t : State) => t.devices[d]) (RosterMoved s)
    (fun d _ h => rosterMoved_failWaiting_step waiting s d h) (fun d e t apart _ => failWaiting_step_other waiting d e t apart)
    s (rosterMoved_self s)
    (fun d t moved same => by
      by_cases waits : inSet waiting d = true
      · rw [if_pos waits]
        exact failListener_hands waits (rosterMoved_here moved) same
      · have none : failReports s waiting d = none := by
          rw [failReports, Bool.eq_false_iff.mpr waits]
          cases s.devices[d] <;> rfl
        rw [if_neg waits, none]
        exact handsReports_self t)

end

/-! ## What a run's end leaves (R110, R111) -/

/-- R111: a single-shot JAM's completion, handed when its slot still waits for it. -/
def State.handRun (s : State) (r : Run) (failed : DeviceSet) : State :=
  match runCompletion r failed with
  | some c => s.handCompletion c
  | none => s

theorem rosterMoved_handRun {s t : State} (r : Run) (failed : DeviceSet) (h : RosterMoved s t) :
    RosterMoved s (t.handRun r failed) := by
  rw [handRun]
  split
  · obtain ⟨_, _, _, _, rfl⟩ := h
    rw [handCompletion_frame]
    exact ⟨_, _, _, _, rfl⟩
  · exact h

theorem handRun_devices (s : State) (r : Run) (failed : DeviceSet) : (s.handRun r failed).devices = s.devices := by
  rw [handRun]
  split
  · rw [handCompletion_frame]
  · rfl

theorem rosterMoved_handReport {s t : State} (r : Report) (h : RosterMoved s t) : RosterMoved s (t.handReport r) := by
  obtain ⟨_, _, _, _, rfl⟩ := h
  rw [handReport_frame]
  exact ⟨_, _, _, _, rfl⟩

/-- R110: the report JAM_RESULT of a run's end. -/
def State.jamResult (s : State) (o : OutputId) (cause : RunCause) (r : Run) : Report :=
  { position := s.here, urgent := decide (r.failed ||| r.waiting ≠ 0)
    body := .jamResult o r.origin cause r.attempts r.ok (r.failed ||| r.waiting) r.blind }

/-- R110, R111: a run's end before the output is free and checked. -/
def State.runEnded (s : State) (o : OutputId) (cause : RunCause) (r : Run) : State :=
  ((failWaiting r.waiting s).handReport (s.jamResult o cause r)).handRun r (r.failed ||| r.waiting)

theorem endRun_eq {s : State} {o : OutputId} {cause : RunCause} {r : Run} (run : s.runs[o] = some r) :
    endRun o cause s = autoCheck o ((s.runEnded o cause r).setRun o none) := by
  have here := rosterMoved_here (rosterMoved_failWaiting r.waiting s)
  simp only [endRun, run, State.report, here]
  rfl

section
variable (s : State) (o : OutputId) (cause : RunCause) (r : Run)

theorem rosterMoved_runEnded : RosterMoved s (s.runEnded o cause r) :=
  rosterMoved_handRun r _ (rosterMoved_handReport _ (rosterMoved_failWaiting r.waiting s))

theorem runEnded_devices (d : DeviceId) : (s.runEnded o cause r).devices[d] =
    if inSet r.waiting d then s.devices[d].map Device.afterRun else s.devices[d] := by
  rw [← failWaiting_devices]
  have same : (s.runEnded o cause r).devices = (failWaiting r.waiting s).devices := by
    rw [runEnded, handRun_devices, handReport_devices]
  simp only [same]

/-- What has been handed once JAM_RESULT is written. -/
theorem runEnded_hands : HandsReports s ((failWaiting r.waiting s).handReport (s.jamResult o cause r))
    (((List.finRange 16).flatMap fun d => (failReports s r.waiting d).toList) ++ [s.jamResult o cause r]) :=
  (failWaiting_hands r.waiting s).trans (handsReports_handReport _ _)

end

theorem handRun_awaited {s : State} {r : Run} {failed : DeviceSet} {n : SlotId} {late : Bool}
    (origin : r.origin = .order n false late true) (ready : s.bus.ready = true) :
    (s.handRun r failed).writer.queue = s.writer.queue ++ [.completion
      { slot := n, code := if late then .doneLate else .done, frame := r.startFrame, fired := 0, missed := 0
        reply := { w29 := r.ok, w30 := failed, w31 := r.blind }, record := none, fence := s.writer.accepted }] := by
  simp only [handRun, runCompletion, origin, handCompletion_accepted ready]

theorem handRun_none {s : State} {r : Run} {failed : DeviceSet} (origin : r.origin = .auto ∨
    (∃ n late owed, r.origin = .order n true late owed) ∨ (∃ n again late, r.origin = .order n again late false)) :
    s.handRun r failed = s := by
  rcases origin with origin | ⟨n, late, owed, origin⟩ | ⟨n, again, late, origin⟩
  · simp only [handRun, runCompletion, origin]
  · simp only [handRun, runCompletion, origin]
  · cases again <;> simp only [handRun, runCompletion, origin]

/-- Settles O50: the notices of a burst, the expiry, a listener's word, the leave notice, a run's end and the automatic check. -/
theorem runsFollowTheirBursts : Obligations.RunsFollowTheirBursts := by
  refine ⟨fun o r s run => ⟨burstBegun_notice run, burstEnd_pending run, burstEnd_none run, rfl⟩, fun w o s r => ?_,
    fun d x l rate delay jam user take o r s => ?_, fun d o r f s run phase listens waits last alone unwanted => ?_,
    fun o cause r s run => ?_, fun o s => ?_⟩
  · intro u
    have row : exec (.verifyExpiry w o) s = .next (takeIfDue (.verifyExpiry o) u) := rfl
    clear_value u
    intro x moving run phase
    have due : exec (.verifyExpiry w o) s = .next (verifyExpiry o u) := by
      rw [row, takeIfDue_due (expiryDue_of moving run phase)]
      rfl
    refine ⟨fun more mode waking bursting free => ?_, fun limit => ?_⟩
    · rw [due, verifyExpiry_again run more (requestBurst_accepted moving mode waking bursting free)]
      rfl
    · rw [due, verifyExpiry_ends run limit]
  · intro v word verifies verified enrolled state path run moving
    obtain ⟨heard, heard_eq⟩ : ∃ t, t = s.setDevice d (some { x with sinceWord := 0 }) := ⟨_, rfl⟩
    have listener : heard.devices[d] = some { x with sinceWord := 0 } := by rw [heard_eq]; exact setDevice_own _ _ _
    have its_run : heard.runs[o] = some r := by rw [heard_eq]; exact run
    have word_eq : word = jamWord d (if rate = s.clock.rate then some v else none) heard := by
      rw [heard_eq]
      exact rosterWord_jamming enrolled moving state
    have made : ((heard.setRun o (some { r with waiting := dropFrom r.waiting d, ok := addTo r.ok d })).setDevice d
        (some ({ x with sinceWord := 0 }.verified v heard.here.frame))).handReport
          { position := heard.here, urgent := false
            body := .deviceState d (some .jamming) (some .tracking) .verified 0 (some v) 0 } = verified := by
      rw [heard_eq]
      simp only [setDevice, setRun, Vector.set_set]
      rfl
    clear_value word verified
    have ends (h : verifies) : word = if dropFrom r.waiting d = 0 then endRun o .complete verified else verified := by
      obtain ⟨open_, waits, same, within⟩ := h
      rw [word_eq, if_pos same]
      exact jamWord_verifies listener path its_run open_ waits within made
    refine ⟨fun h more => (ends h).trans (if_neg more), fun h last => (ends h).trans (if_pos last), fun h => ?_⟩
    rw [word_eq, ← heard_eq]
    by_cases same : rate = s.clock.rate
    · rw [if_pos same]
      exact jamWord_aside listener path its_run fun ⟨open_, waits, within⟩ => h ⟨open_, waits, same, within⟩
    · rw [if_neg same]
      exact jamWord_no_offset listener
  · obtain ⟨left, left_eq⟩ : ∃ t, t = s.setRun o (some (Run.without r d)) := ⟨_, rfl⟩
    have left_run : left.runs[o] = some (Run.without r d) := by rw [left_eq]; exact setRun_own _ _ _
    have none_waits : (Run.without r d).waiting = 0 := last
    have ended : endRun o .complete left = (left.runEnded o .complete (Run.without r d)).setRun o none := by
      rw [endRun_eq left_run]
      refine autoCheck_unwanted o fun e y enrolled => ?_
      have records : ((left.runEnded o .complete (Run.without r d)).setRun o none).devices[e] = s.devices[e] := by
        refine (runEnded_devices left o .complete (Run.without r d) e).trans ?_
        rw [none_waits, if_neg (by rw [inSet, getLsbD_none]; decide), left_eq]
        rfl
      rw [records] at enrolled
      exact unwanted e y enrolled
    have runs : (endRun o .complete left).runs = s.runs.set o none := by
      obtain ⟨_, _, _, _, frame⟩ := rosterMoved_runEnded left o .complete (Run.without r d)
      rw [ended, frame, left_eq]
      simp only [setRun, Vector.set_set]
    have still (t : State) (same : ∀ p : OutputId, p ≠ o → t.runs[p] = s.runs[p]) (p : OutputId) (other : p ≠ o) :
        leaveRun d p t = t := by
      cases here : t.runs[p] with
      | none => exact leaveRun_no_run here
      | some k => exact leaveRun_other here (alone p k other ((same p other).symm.trans here))
    have acts := leaveRun_ends run phase listens waits last
    rw [← left_eq] at acts
    refine (forEach_only (fun p other => still s (fun _ _ => rfl) p other) acts fun p other => still _ (fun q apart => ?_) p other).trans ?_
    · simp only [runs]
      exact Vector.getElem_set_ne _ _ fun h => apart (Fin.ext h.symm)
    · rw [left_eq]
      rfl
  · intro failed fails result
    obtain ⟨_, _, _, _, frame⟩ := rosterMoved_runEnded s o cause r
    have records (d : DeviceId) : ((s.runEnded o cause r).setRun o none).devices[d] =
        if inSet r.waiting d then s.devices[d].map Device.afterRun else s.devices[d] := runEnded_devices s o cause r d
    have hands := runEnded_hands s o cause r
    have fails_eq : ((List.finRange 16).flatMap fun d => (failReports s r.waiting d).toList).map QueueItem.report = fails := by
      rw [← List.filterMap_eq_flatMap_toList, List.map_filterMap]
      simp only [fails, failReports, Option.map_map]
      rfl
    have count : ((List.finRange 16).flatMap fun d => (failReports s r.waiting d).toList).length = fails.length := by
      rw [← fails_eq, List.length_map]
    clear_value fails
    refine ⟨(s.runEnded o cause r).setRun o none, endRun_eq run, ?_, ?_, ?_, ?_, ?_, ?_, ?_, ?_, ?_, fun d x enrolled => ?_,
      fun ready room => ?_⟩
    iterate 9
      rw [frame]
      rfl
    · rw [records, enrolled, Option.map_some, Device.afterRun]
      refine ⟨fun waits jamming => ?_, fun waits other => ?_, fun idle => ?_⟩
      · rw [if_pos waits, if_pos jamming]
        rfl
      · rw [if_pos waits, if_neg other]
      · rw [if_neg (by rw [idle]; decide)]
    · have fits : reportsWaiting s.writer.queue + (((List.finRange 16).flatMap fun d => (failReports s r.waiting d).toList) ++
          [s.jamResult o cause r]).length ≤ 64 := by
        rw [List.length_append, count]
        exact room
      have queue := hands.queue ready fits
      have accepted := hands.accepted ready fits
      rw [List.map_append, fails_eq] at queue
      rw [List.length_append, count] at accepted
      refine ⟨fun n late origin => ?_, fun origin => ?_⟩
      · refine (handRun_awaited (failed := failed) origin (hands.bus ▸ ready)).trans ?_
        rw [queue, accepted, List.append_assoc, List.append_assoc, List.append_assoc]
        rfl
      · refine (congrArg (fun t : State => t.writer.queue) (handRun_none (failed := failed) origin)).trans ?_
        rw [queue, List.append_assoc]
        rfl
  · intro x listens heard starts
    refine ⟨autoCheck_idle, fun h => ⟨s.freshRun o .auto, autoCheck_starts h, rfl, rfl, rfl, rfl, rfl, rfl,
      fun d => mem_freshRun s o .auto d⟩⟩

end Sys2Proof.Machine
end

section
/-! SUPPORT. DEVICE_ENROL and DEVICE_DROP (R81 to R83, R113): their arguments, the binding of inputs, and a leave notice that ends
no run. -/

namespace Sys2Proof.Machine

open State

/-! ## DEVICE_ENROL's arguments (R81, R82) -/

theorem readEnrol_eq_none (a : DeviceEnrolArgs) : readEnrol a = none ↔
    (15 < a.device.toNat ∨ (a.input ≠ 0xFFFF ∧ 7 < a.input.toNat) ∨ (a.jamOutput ≠ 0xFFFF ∧ 3 < a.jamOutput.toNat) ∨
      a.threshold = 0 ∨ 255 < a.threshold.toNat ∨ 2 < a.filter.toNat ∨ 2 < a.policy.toNat ∨ a.silence = 0 ∨
      255 < a.silence.toNat ∨ a.driftWindow.toNat < 8 ∨ 256 < a.driftWindow.toNat ∨
      a.hard.toNat < a.soft.toNat ∨ 2147483647 < a.hard.toNat) := by
  refine (bind_eq_none_of fun _ => bind_eq_none_of fun _ => bind_eq_none_of fun _ => bind_eq_none_of fun _ =>
    bind_eq_none_of fun _ => bind_eq_none_of fun _ => bind_eq_none_of fun _ => bind_eq_none_of
      (p := ¬ (a.soft.toNat ≤ a.hard.toNat ∧ a.hard.toNat ≤ 2147483647)) fun _ => by simp).trans ?_
  rw [readFin_eq_none, readOptFin_eq_none, readOptFin_eq_none, readFilter, readCode_eq_none, readPolicy, readCode_eq_none]
  simp only [readRange_eq_none]
  have zero (w : Word) : w = 0 ↔ w.toNat = 0 := by bv_omega
  simp only [zero]
  by_cases input : a.input = 0xFFFF <;> by_cases output : a.jamOutput = 0xFFFF <;>
    simp only [ne_eq, input, output, not_true, not_false_iff, false_and, true_and, false_or] <;> omega

theorem readEnrol_fields {a : DeviceEnrolArgs} {d : DeviceId} {x : DeviceSettings} (h : readEnrol a = some (d, x)) :
    d.val = a.device.toNat ∧ (x.input = none ↔ a.input = 0xFFFF) ∧ (∀ i, x.input = some i → i.val = a.input.toNat) ∧
      (x.jamOutput = none ↔ a.jamOutput = 0xFFFF) ∧ (∀ o, x.jamOutput = some o → o.val = a.jamOutput.toNat) ∧
      (∀ g : GroupId, x.groups.getLsbD g.val = a.groups.getLsbD g.val) ∧ x.soft = a.soft.toNat ∧
      x.hard = a.hard.toNat ∧ x.threshold = a.threshold.toNat ∧
      x.filter = (if a.filter = 0 then .lead else if a.filter = 1 then .lag else .both) ∧
      x.policy = (if a.policy = 0 then .none else if a.policy = 1 then .atOnce else .deferInTake) ∧
      x.silence = a.silence.toNat ∧ x.driftWindow = a.driftWindow.toNat := by
  simp only [readEnrol, Option.bind_eq_bind, Option.bind_eq_some_iff, readFin_eq_some, readRange_eq_some, readOptFin_eq_some,
    Option.pure_def, Option.ite_none_right_eq_some, Option.some.injEq, Prod.mk.injEq] at h
  obtain ⟨_, device, input, ⟨no_input, an_input⟩, output, ⟨no_output, an_output⟩, _, ⟨_, rfl⟩, filter, filter_read, policy,
    policy_read, _, ⟨_, rfl⟩, _, ⟨_, rfl⟩, _, rfl, rfl⟩ := h
  refine ⟨device, no_input, an_input, no_output, an_output, fun g => ?_, rfl, rfl, rfl, readCode_eq_some filter_read,
    readCode_eq_some policy_read, rfl, rfl⟩
  have low : g.val < 8 := g.isLt
  simp [low]

/-! ## The binding of inputs (R82, R83) -/

/-- Inputs alone have changed. -/
def InputsMoved (s t : State) : Prop := ∃ inputs, t = { s with inputs := inputs }

theorem bindDevice_moved (d : DeviceId) (named : Option InputId) (s : State) : InputsMoved s (s.bindDevice d named) := by
  refine Kept.forEach (P := InputsMoved s) 8 (fun i t h => ?_) ⟨_, rfl⟩
  obtain ⟨_, rfl⟩ := h
  exact ⟨_, rfl⟩

theorem rebind_eq (d : DeviceId) (named : Option InputId) (i : InputId) (x : Input) : Input.rebind d named i x = { x with
    bound := if named = some i then some d else if x.bound = some d then none else x.bound } := by
  rw [Input.rebind]
  split_ifs <;> rfl

theorem bindDevice_inputs (d : DeviceId) (named : Option InputId) (s : State) (i : InputId) :
    (s.bindDevice d named).inputs[i] = { s.inputs[i] with
      bound := if named = some i then some d else if s.inputs[i].bound = some d then none else s.inputs[i].bound } := by
  rw [← rebind_eq]
  exact forEach_items (f := fun i (s : State) => s.setInput i (Input.rebind d named i s.inputs[i]))
    (item := fun i (t : State) => t.inputs[i]) (g := fun i => Input.rebind d named i s.inputs[i])
    (fun _ => True) (fun _ _ _ => trivial)
    (fun i j t apart _ => Vector.getElem_set_ne i.isLt j.isLt fun h => apart (Fin.ext h)) s trivial
    (fun i t _ own => (Vector.getElem_set_self _).trans (congrArg _ own)) i

theorem inputTaken_iff (d : DeviceId) (named : Option InputId) (s : State) : s.inputTaken d named = true ↔
    ∃ (e : DeviceId) (x : Device), e ≠ d ∧ s.devices[e] = some x ∧ x.settings.input = named ∧ named ≠ none := by
  rw [inputTaken, Bool.and_eq_true, any_device_iff, Option.isSome_iff_ne_none]
  simp only [Bool.and_eq_true, decide_eq_true_eq, Option.any_eq_true, beq_iff_eq]
  constructor
  · rintro ⟨some, e, apart, x, enrolled, input⟩
    exact ⟨e, x, apart, enrolled, input, some⟩
  · rintro ⟨e, x, apart, enrolled, input, some⟩
    exact ⟨some, e, apart, x, enrolled, input⟩

/-! ## Leave notices (R113) -/

/-- A leave notice of this device ends no run. -/
def EndsNoRun (d : DeviceId) (s : State) : Prop := ∀ (o : OutputId) (r : Run) (f : FrameNo), s.runs[o] = some r →
  r.phase = .verifying f → dropFrom r.waiting d ≠ 0 ∨ inSet r.waiting d = false ∨ inSet r.listeners d = false

/-- R113: a run's record without a device that is one of its listeners. -/
def leftBy (d : DeviceId) (r : Run) : Run := if inSet r.listeners d = true then Run.without r d else r

theorem setRun_self (s : State) (o : OutputId) : s.setRun o s.runs[o] = s := by
  simp only [setRun, Fin.getElem_fin, Vector.set_getElem_self]

theorem leaveRun_eq {s : State} {d : DeviceId} {o : OutputId} (lasts : EndsNoRun d s) :
    leaveRun d o s = s.setRun o (s.runs[o].map (leftBy d)) := by
  cases run : s.runs[o] with
  | none => rw [leaveRun_no_run run, Option.map_none, ← run, setRun_self]
  | some r =>
    rw [Option.map_some, leftBy]
    by_cases listens : inSet r.listeners d = true
    · rw [if_pos listens]
      refine leaveRun_leaves run listens fun ⟨⟨f, phase⟩, waits, last⟩ => ?_
      rcases lasts o r f run phase with more | idle | other
      · exact more last
      · exact Bool.noConfusion (idle.symm.trans waits)
      · exact Bool.noConfusion (other.symm.trans listens)
    · rw [if_neg listens, leaveRun_other run (Bool.eq_false_iff.mpr listens), ← run, setRun_self]

theorem leftBy_listeners (d : DeviceId) (r : Run) : inSet (leftBy d r).listeners d = false := by
  rw [leftBy]
  split
  · rw [Run.without, inSet_dropFrom, decide_eq_true rfl, Bool.not_true, Bool.and_false]
  · next other => exact Bool.eq_false_iff.mpr other

theorem endsNoRun_leaveRun {s : State} {d : DeviceId} (o : OutputId) (lasts : EndsNoRun d s) : EndsNoRun d (leaveRun d o s) := by
  intro p r f run phase
  rw [leaveRun_eq lasts] at run
  by_cases same : o = p
  · subst same
    rw [setRun_own, Option.map_eq_some_iff] at run
    obtain ⟨k, _, rfl⟩ := run
    exact .inr (.inr (leftBy_listeners d k))
  · have other : (s.setRun o (s.runs[o].map (leftBy d))).runs[p] = s.runs[p] :=
      Vector.getElem_set_ne o.isLt p.isLt fun h => same (Fin.ext h)
    exact lasts p r f (other.symm.trans run) phase

/-- Runs alone have changed. -/
def RunsMoved (s t : State) : Prop := ∃ runs, t = { s with runs := runs }

theorem leaveNotice_moved {s : State} {d : DeviceId} (lasts : EndsNoRun d s) : RunsMoved s (leaveNotice d s) := by
  have whole : RunsMoved s (leaveNotice d s) ∧ EndsNoRun d (leaveNotice d s) := by
    refine Kept.forEach (P := fun t => RunsMoved s t ∧ EndsNoRun d t) 4 (fun o t h => ?_) ⟨⟨_, rfl⟩, lasts⟩
    obtain ⟨⟨_, rfl⟩, lasts⟩ := h
    exact ⟨⟨_, leaveRun_eq lasts⟩, endsNoRun_leaveRun o lasts⟩
  exact whole.1

theorem leaveNotice_runs {s : State} {d : DeviceId} (lasts : EndsNoRun d s) (o : OutputId) :
    (leaveNotice d s).runs[o] = s.runs[o].map (leftBy d) :=
  forEach_items (f := leaveRun d) (item := fun o (t : State) => t.runs[o]) (EndsNoRun d) (fun o _ h => endsNoRun_leaveRun o h)
    (fun o p t apart lasts => by
      rw [leaveRun_eq lasts]
      exact Vector.getElem_set_ne o.isLt p.isLt fun h => apart (Fin.ext h))
    s lasts
    (fun o t lasts own => by
      rw [leaveRun_eq lasts, own]
      exact setRun_own _ _ _)
    o

/-- A leave notice keeps picture time, whether or not it ends a run. -/
theorem leaveNotice_here (d : DeviceId) (s : State) : (leaveNotice d s).here = s.here := by
  have kept : StepKept fun t : State => t.clock = s.clock :=
    { device := fun _ _ _ h => h
      run := fun _ _ _ h => h
      notice := fun _ _ _ h => h
      report := fun t r h => (handReport_clock t r).trans h
      completion := fun t c h => by rw [handCompletion_frame]; exact h
      output := fun _ _ _ _ h => h }
  have clock : (leaveNotice d s).clock = s.clock := by
    refine Kept.forEach (P := fun t => t.clock = s.clock) 4 (fun o t h => ?_) rfl
    rw [leaveRun]
    split
    · exact h
    · split
      · dsimp only
        split
        · exact kept.endRun o _ (kept.run _ _ _ h)
        · exact h
      · exact h
  simp only [here, clock]

/-! ## DEVICE_ENROL and DEVICE_DROP (R82, R83) -/

section
variable {a : DeviceEnrolArgs} {d : DeviceId} {x : DeviceSettings} {s : State}

theorem ownDeviceEnrol_refused (bad : readEnrol a = none) : s.ownDeviceEnrol a = refuse .badArg s := by
  simp only [ownDeviceEnrol, bad]

theorem ownDeviceEnrol_clash (read : readEnrol a = some (d, x)) (taken : s.inputTaken d x.input = true) :
    s.ownDeviceEnrol a = refuse .clash s := by
  simp only [ownDeviceEnrol, read, if_pos taken]

theorem ownDeviceEnrol_busy (read : readEnrol a = some (d, x)) (free : ¬ s.inputTaken d x.input = true)
    (jamming : ∃ y, s.devices[d] = some y ∧ y.state = .jamming) : s.ownDeviceEnrol a = refuse .busy s := by
  obtain ⟨y, enrolled, state⟩ := jamming
  have busy : (s.devices[d].any fun x => x.state == .jamming) = true := by
    rw [enrolled, Option.any_some, state]
    rfl
  simp only [ownDeviceEnrol, read, if_neg free, if_pos busy]

/-- R82: the record made fresh and bound, before its leave notice. -/
def State.enrolled (s : State) (d : DeviceId) (x : DeviceSettings) : State :=
  (s.setDevice d (some (Device.enrolled x))).bindDevice d x.input

theorem ownDeviceEnrol_made (read : readEnrol a = some (d, x)) (free : ¬ s.inputTaken d x.input = true)
    (calm : ∀ y, s.devices[d] = some y → y.state ≠ .jamming) {v : State} (first : s.rosterFirst = v) : s.ownDeviceEnrol a =
      accept ((leaveNotice d (v.enrolled d x)).handReport
        { position := v.here, urgent := false
          body := .deviceState d (v.devices[d].map fun y => y.state) (some .absent) .enrol 0 none 0 }) := by
  have idle : ¬ (s.devices[d].any fun x => x.state == .jamming) = true := by
    rw [Option.any_eq_true]
    rintro ⟨y, enrolled, state⟩
    exact calm y enrolled (beq_iff_eq.mp state)
  have here : (leaveNotice d (v.enrolled d x)).here = v.here := by
    rw [leaveNotice_here]
    obtain ⟨_, frame⟩ := bindDevice_moved d x.input (v.setDevice d (some (Device.enrolled x)))
    rw [State.enrolled, frame]
    rfl
  simp only [ownDeviceEnrol, read, if_neg free, if_neg idle, first, State.report]
  rw [← here]
  rfl

theorem ownDeviceDrop_refused {device : Word} (bad : 16 ≤ device.toNat) : s.ownDeviceDrop device = refuse .badArg s := by
  simp only [ownDeviceDrop, readFin_out_of_range bad]

theorem ownDeviceDrop_none {device : Word} (named : d.val = device.toNat) (absent : s.devices[d] = none) :
    s.ownDeviceDrop device = refuse .noDevice s := by
  simp only [ownDeviceDrop, readFin_of_val named, rosterFirst_absent absent]

/-- R83: the record cleared and its input unbound, before its leave notice. -/
def State.dropped (s : State) (d : DeviceId) : State := (s.setDevice d none).bindDevice d none

theorem ownDeviceDrop_made {device : Word} {y : Device} {v : State} (named : d.val = device.toNat) (first : s.rosterFirst = v)
    (enrolled : v.devices[d] = some y) : s.ownDeviceDrop device =
      accept ((leaveNotice d (v.dropped d)).handReport
        { position := v.here, urgent := false, body := .deviceState d (some y.state) none .drop 0 none 0 }) := by
  have here : (leaveNotice d (v.dropped d)).here = v.here := by
    rw [leaveNotice_here]
    obtain ⟨_, frame⟩ := bindDevice_moved d none (v.setDevice d none)
    rw [State.dropped, frame]
    rfl
  simp only [ownDeviceDrop, readFin_of_val named, first, enrolled, State.report]
  rw [← here]
  rfl

theorem enrolled_eq (v : State) : v.enrolled d x = { v with
    devices := v.devices.set d (some
      { settings := x, state := .absent, strikes := 0, lastOffset := none, validRun := 0, sinceWord := 0, drift := none
        windowOffset := 0, windowFrame := 0, windowCount := 0, capture := none, breaches := 0, jamWanted := false })
    inputs := (v.enrolled d x).inputs } := by
  obtain ⟨_, frame⟩ := bindDevice_moved d x.input (v.setDevice d (some (Device.enrolled x)))
  rw [State.enrolled, frame]
  rfl

theorem dropped_eq (v : State) : v.dropped d = { v with devices := v.devices.set d none, inputs := (v.dropped d).inputs } := by
  obtain ⟨_, frame⟩ := bindDevice_moved d none (v.setDevice d none)
  rw [State.dropped, frame]
  rfl

theorem dropped_inputs (v : State) (i : InputId) : (v.dropped d).inputs[i] = { v.inputs[i] with
    bound := if v.inputs[i].bound = some d then none else v.inputs[i].bound } := bindDevice_inputs d none (v.setDevice d none) i

end

section
variable {w : Nat} {n : SlotId} {t : Timing} {s s' : State} {code : ResultCode} {reply : Reply} {record : Option ReplyRecord}
  (ready : (upTo w s).bus.ready = true) (atOnce : t.timing = 0)
include ready atOnce

theorem exec_deviceEnrol {a : DeviceEnrolArgs} (answer : (orderTaken n t (.deviceEnrol a) (upTo w s)).ownDeviceEnrol a =
      (s', .completes code reply record)) : exec (.deviceEnrol w n t a) s = .next (completeSlot n code reply record s') :=
  exec_orderRow_completes (o := .deviceEnrol a) rfl ready atOnce answer

theorem exec_deviceDrop {device : Word} (answer : (orderTaken n t (.deviceDrop device) (upTo w s)).ownDeviceDrop device =
      (s', .completes code reply record)) : exec (.deviceDrop w n t device) s = .next (completeSlot n code reply record s') :=
  exec_orderRow_completes (o := .deviceDrop device) rfl ready atOnce answer

end

/-- Settles O45: DEVICE_ENROL's arguments, the two orders by what stands in their way, and a leave notice that ends no run. -/
theorem devicesEnrolAndDrop : Obligations.DevicesEnrolAndDrop := by
  refine ⟨fun a => ⟨readEnrol_eq_none a, fun d x => readEnrol_fields⟩, fun w n t a s => ?_, fun w n t device s => ?_,
    fun d q lasts => ⟨?_, leaveNotice_runs lasts⟩⟩
  · intro v taken ready atOnce
    have completes {s' : State} {code : ResultCode} (answer : v.ownDeviceEnrol a = (s', .completes code Reply.zero none)) :
        exec (.deviceEnrol w n t a) s = .next (completeSlot n code Reply.zero none s') := exec_deviceEnrol ready atOnce answer
    have taken_iff (d : DeviceId) (named : Option InputId) : v.inputTaken d named = true ↔ taken d named :=
      inputTaken_iff d named v
    clear_value v taken
    refine ⟨fun bad => completes (ownDeviceEnrol_refused bad), fun d x read => ⟨fun clash => ?_, fun free busy => ?_,
      fun free calm => ?_⟩⟩
    · exact completes (ownDeviceEnrol_clash read ((taken_iff d x.input).mpr clash))
    · exact completes (ownDeviceEnrol_busy read (mt (taken_iff d x.input).mp free) busy)
    · intro r
      have first : v.rosterFirst = r := rfl
      clear_value r
      exact ⟨r.enrolled d x, completes (ownDeviceEnrol_made read (mt (taken_iff d x.input).mp free) calm first), enrolled_eq r,
        bindDevice_inputs d x.input (r.setDevice d _)⟩
  · intro v ready atOnce
    have completes {s' : State} {code : ResultCode} (answer : v.ownDeviceDrop device = (s', .completes code Reply.zero none)) :
        exec (.deviceDrop w n t device) s = .next (completeSlot n code Reply.zero none s') := exec_deviceDrop ready atOnce answer
    clear_value v
    refine ⟨fun bad => completes (ownDeviceDrop_refused bad), fun d named => ⟨fun absent => ?_, fun x enrolled => ?_⟩⟩
    · exact completes (ownDeviceDrop_none named absent)
    · intro r
      have first : v.rosterFirst = r := rfl
      rw [first] at enrolled
      clear_value r
      exact ⟨r.dropped d, completes (ownDeviceDrop_made named first enrolled), dropped_eq r, dropped_inputs r⟩
  · obtain ⟨_, frame⟩ := leaveNotice_moved lasts
    rw [frame]

end Sys2Proof.Machine
end

section
/-! SUPPORT. R1, R14: where the changes of a frame fall, and what one reference tick does to picture time. -/

namespace Sys2Proof.Machine

open State

/-! ## The places of the changes (R14) -/

/-- R14: the place of the `k`-th of a frame's `n` changes. -/
def changePlace (m n k : Nat) : Nat := (2 * k + 1) * m / (2 * n)

theorem isChangeTick_iff (m : Nat) (c : Int) (t : Nat) :
    isChangeTick m c t = true ↔ ∃ k, k < c.natAbs ∧ changePlace m c.natAbs k = t := by
  simp only [isChangeTick, List.any_eq_true, List.mem_range, beq_iff_eq, changePlace]

/-- No rate has a multiple of 510 picture ticks. -/
theorem rateTicks_not_dvd {r : Nat} (low : r ≤ 10) : ¬ 510 ∣ rateTicks r := by
  have all : ∀ r : Fin 11, ¬ 510 ∣ rateTicks r.val := by decide
  exact all ⟨r, by omega⟩

theorem changePlace_lt {m n j k : Nat} (some : 1 ≤ n) (wide : n ≤ m) (before : j < k) : changePlace m n j < changePlace m n k := by
  have apart : (2 * j + 1) * m + 2 * n ≤ (2 * k + 1) * m := by nlinarith
  calc changePlace m n j < (2 * j + 1) * m / (2 * n) + 1 := Nat.lt_succ_self _
    _ = ((2 * j + 1) * m + 2 * n) / (2 * n) := (Nat.add_div_right _ (by omega)).symm
    _ ≤ changePlace m n k := Nat.div_le_div_right apart

theorem le_changePlace_first {m n : Nat} (some : 1 ≤ n) (few : n ≤ 255) : m / 510 ≤ changePlace m n 0 := by
  rw [changePlace, Nat.mul_zero, Nat.zero_add, Nat.one_mul]
  exact Nat.div_le_div_left (by omega) (by omega)

theorem changePlace_last_le {m n : Nat} (some : 1 ≤ n) (few : n ≤ 255) (odd : ¬ 510 ∣ m) :
    changePlace m n (n - 1) ≤ m - 1 - m / 510 := by
  have rest : 0 < m % 510 := Nat.pos_of_ne_zero fun h => odd (Nat.dvd_of_mod_eq_zero h)
  have whole : (2 * (n - 1) + 1) * m + m = 2 * n * m := by
    obtain ⟨k, rfl⟩ : ∃ k, n = k + 1 := ⟨n - 1, by omega⟩
    rw [Nat.add_sub_cancel]
    ring
  have share : 2 * n * (m / 510) < m := by
    calc 2 * n * (m / 510) ≤ 510 * (m / 510) := Nat.mul_le_mul_right _ (by omega)
      _ < m := by omega
  have below : (2 * (n - 1) + 1) * m < (m - m / 510) * (2 * n) := by
    rw [Nat.sub_mul, Nat.mul_comm m, Nat.mul_comm (m / 510)]
    omega
  have := Nat.div_lt_of_lt_mul ((Nat.mul_comm (2 * n) _).symm ▸ below)
  rw [changePlace]
  omega

/-! ## One reference tick (R1) -/

theorem beginTick_stopped {s : State} (stopped : s.clock.state = .stopped) : s.beginTick.clock = s.clock := by
  have idle : s.countTick.running = false := running_false (s := s.countTick) stopped
  rw [beginTick, advancePicture, idle]
  rfl

section
variable {s : State} (running : s.clock.state ≠ .stopped)
include running

theorem beginTick_running : s.beginTick = if s.holdsTick = true then
      s.countTick.setClock { s.clock with phase := .held }
    else if s.lastTick = true then s.countTick.passBoundary else s.countTick.nextPictureTick := by
  have runs : s.countTick.running = true := (running_iff s.countTick).mpr running
  rw [beginTick, advancePicture, runs]
  rfl

theorem beginTick_held (holds : s.holdsTick = true) : s.beginTick.clock = { s.clock with phase := .held } := by
  rw [beginTick_running running, if_pos holds]
  rfl

theorem beginTick_next (goes : ¬ s.holdsTick = true) (inside : s.clock.tick + 1 < rateTicks s.clock.rate) :
    s.beginTick.clock = { s.clock with
      tick := s.clock.tick + 1
      phase := if s.clock.correction < 0 ∧ isChangeTick (rateTicks s.clock.rate) s.clock.correction (s.clock.tick + 1) = true
        then .early else .single } := by
  have last : ¬ s.lastTick = true := fun h => by
    have late : rateTicks s.clock.rate ≤ s.clock.tick + 1 := of_decide_eq_true h
    omega
  rw [beginTick_running running, if_neg goes, if_neg last]
  simp only [nextPictureTick, Bool.and_eq_true, decide_eq_true_eq]
  rfl

end

theorem holdsTick_iff (s : State) : s.holdsTick = true ↔ s.clock.phase = .single ∧ 0 < s.clock.correction ∧
    isChangeTick (rateTicks s.clock.rate) s.clock.correction s.clock.tick = true := by
  simp only [holdsTick, Bool.and_eq_true, decide_eq_true_eq, and_assoc]
  rfl

/-- Settles O28: places at even distances, and a reference tick by the kind of change that falls on it. -/
theorem correctionsSpreadOverTheFrame : Obligations.CorrectionsSpreadOverTheFrame := by
  refine ⟨fun r n rate some few => ⟨fun j k before _ => ?_, le_changePlace_first some few,
    changePlace_last_le some few (rateTicks_not_dvd rate), fun t => ⟨?_, ?_⟩⟩, fun s running => ⟨fun single up change => ?_,
    fun held inside up => ?_, fun down inside change => ?_, fun none inside => ?_⟩, fun s stopped => beginTick_stopped stopped⟩
  · have := rateTicks_ge r
    exact changePlace_lt some (by omega) before
  · exact isChangeTick_iff _ _ _
  · exact (isChangeTick_iff _ _ _).trans (by rw [Int.natAbs_neg, Int.natAbs_natCast]; rfl)
  · exact beginTick_held running ((holdsTick_iff s).mpr ⟨single, up, change⟩)
  · have goes : ¬ s.holdsTick = true := fun h => by
      have single := ((holdsTick_iff s).mp h).1
      exact TickPhase.noConfusion (held.symm.trans single)
    rw [beginTick_next running goes inside, if_neg fun h => by omega]
  · have goes : ¬ s.holdsTick = true := fun h => by
      have up := ((holdsTick_iff s).mp h).2.1
      omega
    have clock : s.beginTick.clock = { s.clock with tick := s.clock.tick + 1, phase := .early } := by
      rw [beginTick_next running goes inside, if_pos ⟨down, change⟩]
    refine ⟨clock, ?_⟩
    rw [secondTick, setClock_clock, clock]
  · have goes : ¬ s.holdsTick = true := fun h => by
      have up := ((holdsTick_iff s).mp h).2.1
      omega
    rw [beginTick_next running goes inside, if_neg fun h => by omega]

end Sys2Proof.Machine
end

section
/-! SUPPORT. The two transitions a frame boundary may owe (R18, R19), and the clock's part of the boundary settled (R12, R13,
R23). -/

namespace Sys2Proof.Machine

open State

/-! ## The boundary settled (R12, R13, R23) -/

theorem writeMirror_closed {s : State} (closed : s.bus.ready = false) : s.writeMirror = s := by
  rw [writeMirror, if_neg (Bool.eq_false_iff.mp closed)]

/-- R23: the three words of the mirror, and every other word, once it is rewritten. -/
theorem word_writeMirror {s : State} (sound : s.storeSound) (ready : s.bus.ready = true) (a : Nat) : s.writeMirror.word a =
    if a = 7 then s.clock.state.code else if a = 6 then hi16 s.clock.frame else if a = 5 then lo16 s.clock.frame
    else s.word a := by
  have low := Memory.wf_putWord Address.frameLow (lo16 s.clock.frame) sound
  have high := Memory.wf_putWord Address.frameHigh (hi16 s.clock.frame) low
  rw [writeMirror, if_pos ready, State.frame,
    word_putWord (s := (s.putWord Address.frameLow (lo16 s.clock.frame)).putWord Address.frameHigh (hi16 s.clock.frame)) high,
    word_putWord (s := s.putWord Address.frameLow (lo16 s.clock.frame)) low, word_putWord sound]
  rfl

theorem settleClock_clock (s : State) : s.settleClock.clock = s.clock.settle := by
  rw [settleClock, writeMirror_frame]
  rfl

theorem word_settleClock {s : State} (sound : s.storeSound) (ready : s.bus.ready = true) (a : Nat) : s.settleClock.word a =
    if a = 7 then s.clock.state.code else if a = 6 then hi16 s.clock.frame else if a = 5 then lo16 s.clock.frame
    else s.word a :=
  word_writeMirror (s := s.setClock s.clock.settle) sound ready a

theorem settleClock_closed {s : State} (closed : s.bus.ready = false) : s.settleClock = s.setClock s.clock.settle :=
  writeMirror_closed (s := s.setClock s.clock.settle) closed

theorem nextCorrection_free {c : Clock} (free : c.state = .freeRun) : c.nextCorrection = 0 := by
  simp only [Clock.nextCorrection, free]

theorem nextCorrection_ordered {c : Clock} (follows : c.state = .locking ∨ c.state = .locked) :
    c.nextCorrection = saturate c.slew ((c.ordered.map fun e => e.error).getD 0) := by
  rcases follows with state | state <;> simp only [Clock.nextCorrection, state]

theorem nextCorrection_holdover {c : Clock} (holds : c.state = .holdover) :
    c.nextCorrection = saturate c.slew (c.holdoverValue.getD 0) := by
  simp only [Clock.nextCorrection, holds]

/-! ## The transitions a boundary owes (R18, R19) -/

theorem missingDue_iff (s : State) : s.missingDue = true ↔ s.clock.settleOwed = true ∧ s.clock.refUse = true ∧
    (s.clock.state = .locked ∨ s.clock.state = .locking) ∧ 4 ≤ s.clock.missingRun := by
  simp only [missingDue, Clock.missing, Bool.and_eq_true, decide_eq_true_eq, and_assoc]

theorem holdoverDue_iff (s : State) : s.holdoverDue = true ↔ s.clock.settleOwed = true ∧ s.clock.state = .holdover ∧
    s.clock.holdoverLimit ≤ s.clock.holdoverCount := by
  simp only [holdoverDue, Clock.expired, Bool.and_eq_true, decide_eq_true_eq]

theorem settleClock_owed (s : State) : s.settleClock.owed = s.owed := by
  rw [settleClock, writeMirror_frame]
  rfl

theorem handReport_owed (s : State) (r : Report) : (s.handReport r).owed = s.owed := by
  rw [handReport_frame]

theorem leaveMissing_locked {s : State} (locked : s.clock.state = .locked) : s.leaveMissing.giveUnlocked =
    ((State.settleClock (({ s with
        clock := { s.clock with state := .holdover, holdoverValue := some (historyMean s.clock.history), holdoverCount := 0 }
        writer := { s.writer with clock := true } }).handReport
      { position := s.here, urgent := true
        body := .clockState .locked .holdover .missing (some (historyMean s.clock.history)) })).unlockedNotice).setOwed
      { s.owed with unlocked := false } := by
  rw [leaveMissing, if_pos locked]
  dsimp only
  rw [changeClock_eq, settleClock_setOwed]
  simp only [setClock_clock, locked, decide_true, Bool.or_true]
  rw [giveUnlocked_owed rfl]
  rfl

theorem leaveMissing_locking {s : State} (locking : s.clock.state = .locking) : s.leaveMissing =
    State.settleClock (({ s with
        clock := { s.clock with state := .freeRun, crashEligible := false }, writer := { s.writer with clock := true } }).handReport
      { position := s.here, urgent := true, body := .clockState .locking .freeRun .missing none }) := by
  have other : ¬ s.clock.state = .locked := fun h => ClockState.noConfusion (locking.symm.trans h)
  rw [leaveMissing, if_neg other]
  exact congrArg State.settleClock (changeClock_unlocked (s := s.setClock { s.clock with crashEligible := false }) locking
    (by decide) .freeRun .missing none)

theorem holdoverExpiry_eq {s : State} (holds : s.clock.state = .holdover) : s.holdoverExpiry =
    State.settleClock (({ s with
        clock := { s.clock with state := .freeRun, holdoverValue := none }, writer := { s.writer with clock := true } }).handReport
      { position := s.here, urgent := true, body := .clockState .holdover .freeRun .expiry none }) := by
  exact congrArg State.settleClock (changeClock_unlocked (s := s.setClock { s.clock with holdoverValue := none }) holds
    (by decide) .freeRun .expiry none)

/-- Settles O27: the two transitions by the state they leave, and the settled boundary by the state it finds. -/
theorem missingAndExpiryLeaveTheLock : Obligations.MissingAndExpiryLeaveTheLock := by
  refine ⟨fun w s => ?_, fun s sound => ?_⟩
  · intro u owed
    have missing : exec (.hrefMissing w) s = .next (takeIfDue .hrefMissing u) := rfl
    have expiry : exec (.holdoverExpiry w) s = .next (takeIfDue .holdoverExpiry u) := rfl
    clear_value u
    rw [missing, expiry]
    refine ⟨fun refUse run locked => ?_, fun refUse run locking => ?_, fun holds spent => ?_⟩
    · rw [takeIfDue_due (e := .hrefMissing) ((missingDue_iff u).mpr ⟨owed, refUse, .inl locked, run⟩)]
      exact congrArg _ (leaveMissing_locked locked)
    · intro q
      have left : u.leaveMissing = q := leaveMissing_locking locking
      have same : q.owed = u.owed := (settleClock_owed _).trans (handReport_owed _ _)
      clear_value q
      rw [takeIfDue_due (e := .hrefMissing) ((missingDue_iff u).mpr ⟨owed, refUse, .inr locking, run⟩), ← same, ← left]
      rfl
    · rw [takeIfDue_due (e := .holdoverExpiry) ((holdoverDue_iff u).mpr ⟨owed, holds, spent⟩)]
      exact congrArg _ (holdoverExpiry_eq holds)
  · intro q
    have clock : q.clock = s.clock.settle := settleClock_clock s
    rw [clock]
    refine ⟨rfl, rfl, rfl, rfl, nextCorrection_free, nextCorrection_ordered, nextCorrection_holdover, fun ready => ?_,
      fun closed => ?_, fun a outside => ?_⟩
    · exact ⟨(word_settleClock sound ready 5).trans rfl, (word_settleClock sound ready 6).trans rfl,
        (word_settleClock sound ready 7).trans rfl⟩
    · exact (congrArg State.store (settleClock_closed closed) :)
    · cases ready : s.bus.ready with
      | true =>
        refine (word_settleClock sound ready a).trans ?_
        rw [if_neg (by omega), if_neg (by omega), if_neg (by omega)]
      | false => exact (congrArg (fun t : State => t.word a) (settleClock_closed ready) :)

end Sys2Proof.Machine
end

section
/-! SUPPORT. CLOCK_START (R5, R6): its arguments, and the START instant in every block. -/

namespace Sys2Proof.Machine

open State

/-! ## CLOCK_START's arguments (R5) -/

/-- R5: the label a CLOCK_START names. -/
def startLabel (a : ClockStartArgs) : Label :=
  { hh := a.hh.toNat, mm := a.mm.toNat, ss := a.ss.toNat, ff := a.ff.toNat }

/-- R5: the parameters a CLOCK_START gives when its parameter flag is set. -/
def startTune (a : ClockStartArgs) : Option Tune :=
  if a.paramFlag = 1 then
    some { slew := a.slew.toNat, window := a.window.toNat, holdover := a.holdover.toNat,
           crash := decide (a.crash = 1), refUse := decide (a.refUse = 1) }
  else none

/-- R5: the arguments a CLOCK_START accepts. -/
def StartsWell (a : ClockStartArgs) : Prop :=
  a.rate.toNat ≤ 10 ∧ labelValid a.rate.toNat (startLabel a) = true ∧ a.refUse.toNat ≤ 1 ∧ a.paramFlag.toNat ≤ 1 ∧
    a.crash.toNat ≤ 1 ∧ (a.paramFlag = 1 →
      1 ≤ a.slew.toNat ∧ a.slew.toNat ≤ 255 ∧ a.window.toNat ≤ 255 ∧ 1 ≤ a.holdover.toNat)

theorem readStart_eq_some {a : ClockStartArgs} (x : StartSetting) : readStart a = some x ↔ StartsWell a ∧
    x = { rate := a.rate.toNat, label := startLabel a, refUse := decide (a.refUse = 1), tune := startTune a } := by
  constructor
  · intro h
    simp only [readStart, Option.bind_eq_bind, Option.bind_eq_some_iff, readRange_eq_some, readFlag_eq_some, Option.pure_def,
      Option.ite_none_right_eq_some] at h
    obtain ⟨_, ⟨⟨_, rate⟩, rfl⟩, valid, _, ⟨refUse, rfl⟩, _, ⟨flag, rfl⟩, _, ⟨crash, rfl⟩, rest⟩ := h
    by_cases given : a.paramFlag = 1
    · rw [if_pos (decide_eq_true given)] at rest
      obtain ⟨t, read, made⟩ := Option.bind_eq_some_iff.mp rest
      obtain ⟨⟨low, high, window, positive, _, _⟩, rfl⟩ := (readTune_eq_some t).mp read
      refine ⟨⟨rate, valid, refUse, flag, crash, fun _ => ⟨low, high, window, positive⟩⟩, ?_⟩
      rw [startTune, if_pos given]
      exact (Option.some.inj made).symm
    · rw [if_neg fun h => given (of_decide_eq_true h)] at rest
      refine ⟨⟨rate, valid, refUse, flag, crash, fun h => absurd h given⟩, ?_⟩
      rw [startTune, if_neg given]
      exact (Option.some.inj rest).symm
  · rintro ⟨⟨rate, valid, refUse, flag, crash, parameters⟩, rfl⟩
    rw [readStart, readRange_eq_some.mpr ⟨⟨Nat.zero_le _, rate⟩, rfl⟩, readFlag_eq_some.mpr ⟨refUse, rfl⟩,
      readFlag_eq_some.mpr ⟨flag, rfl⟩, readFlag_eq_some.mpr ⟨crash, rfl⟩, startTune]
    refine (if_pos valid).trans ?_
    by_cases given : a.paramFlag = 1
    · obtain ⟨low, high, window, positive⟩ := parameters given
      rw [if_pos given, (readTune_eq_some _).mpr ⟨⟨low, high, window, positive, crash, refUse⟩, rfl⟩]
      exact if_pos (decide_eq_true given)
    · rw [if_neg given]
      exact if_neg fun h => given (of_decide_eq_true h)

theorem readStart_eq_none (a : ClockStartArgs) : readStart a = none ↔
    (10 < a.rate.toNat ∨ labelValid a.rate.toNat (startLabel a) = false ∨ 1 < a.refUse.toNat ∨ 1 < a.paramFlag.toNat ∨
      1 < a.crash.toNat ∨
      (a.paramFlag = 1 ∧ (a.slew = 0 ∨ 255 < a.slew.toNat ∨ 255 < a.window.toNat ∨ a.holdover = 0))) := by
  have zero (w : Word) : w = 0 ↔ w.toNat = 0 := by bv_omega
  rw [eq_none_of_some_iff readStart_eq_some]
  simp only [StartsWell, not_and_or, not_le, Classical.not_imp, Bool.not_eq_true, Nat.lt_one_iff, zero]

theorem ownClockStart_running {a : ClockStartArgs} {s : State} (moving : s.clock.state ≠ .stopped) :
    s.ownClockStart a = refuse .busy s := by
  rw [ownClockStart, if_pos ((running_iff s).mpr moving)]

theorem ownClockStart_refused {a : ClockStartArgs} {s : State} (stopped : s.clock.state = .stopped) (bad : readStart a = none) :
    s.ownClockStart a = refuse .badArg s := by
  simp only [ownClockStart, running_false stopped, bad, Bool.false_eq_true, if_false]

theorem ownClockStart_started {a : ClockStartArgs} {s : State} {x : StartSetting} (stopped : s.clock.state = .stopped)
    (good : readStart a = some x) : s.ownClockStart a = accept (s.startClock x) := by
  simp only [ownClockStart, running_false stopped, good, Bool.false_eq_true, if_false]

theorem exec_clockStart {w : Nat} {n : SlotId} {t : Timing} {a : ClockStartArgs} {s s' : State} {code : ResultCode} {reply record}
    (ready : (upTo w s).bus.ready = true) (atOnce : t.timing = 0)
    (answer : (orderTaken n t (.clockStart a) (upTo w s)).ownClockStart a = (s', .completes code reply record)) :
    exec (.clockStart w n t a) s = .next (completeSlot n code reply record s') :=
  exec_orderRow_completes (o := .clockStart a) rfl ready atOnce answer

/-! ## Ports at the START instant (R34) -/

/-- A report handed by a state with the same READY and the same writer. -/
theorem handsReports_then {s t : State} (bus : t.bus = s.bus) (writer : t.writer = s.writer) (r : Report) :
    HandsReports s (t.handReport r) [r] :=
  (handsReports_none bus writer).trans (handsReports_handReport t r)

/-- A report at the START instant. -/
def startedReport (body : ReportBody) : Report := { position := { frame := 0, tick := 0 }, urgent := false, body := body }

/-- R34: the report of a port whose stored setting is checked against the new M. -/
def portStarted (i : PortId) (m : Nat) (x : PortSetting) : ReportBody :=
  if x.valid m then .portApplied i .active .start 0 (x.width m) else .portApplied i .dropped .start 0 0

/-- R34: a port whose stored setting is checked against the new M. -/
def Port.started (m : Nat) (p : Port) : Port :=
  match p.active with
  | none => p
  | some x => if x.valid m then p.anchorAt 0 else { p with active := none, level := false, pulse := none }

theorem startPort_none {s : State} {i : PortId} (off : s.ports[i].active = none) : startPort i s = s := by
  simp only [startPort, off]

theorem startPort_some {s : State} {i : PortId} {x : PortSetting} (active : s.ports[i].active = some x) :
    startPort i s = (s.setPort i (s.ports[i].started s.ticks)).handReport
      { position := s.here, urgent := false, body := portStarted i s.ticks x } := by
  by_cases valid : x.valid s.ticks = true <;> simp only [startPort, Port.started, portStarted, active, valid] <;> rfl

/-- Ports, the writer and the store have changed, and the latches of the writer have not. -/
def PortsMoved (s t : State) : Prop := ∃ ports writer store,
  t = { s with ports := ports, writer := writer, store := store } ∧ writer.clock = s.writer.clock

/-- R175: a report handed sets no latch of the CLOCK reason. -/
theorem handReport_clockLatch (s : State) (r : Report) : (s.handReport r).writer.clock = s.writer.clock := by
  cases ready : s.bus.ready
  · rcases Nat.lt_or_ge (reportsWaiting s.writer.kept) 64 with room | full
    · rw [handReport_kept ready room]
    · rw [handReport_lost ready full]
  · rcases Nat.lt_or_ge (reportsWaiting s.writer.queue) 64 with room | full
    · rw [handReport_accepted ready room]
    · rw [handReport_dropped ready full]

theorem portsMoved_startPort {s t : State} (i : PortId) (h : PortsMoved s t) : PortsMoved s (startPort i t) := by
  cases active : t.ports[i].active with
  | none => exact (startPort_none active).symm ▸ h
  | some x =>
    obtain ⟨_, _, _, rfl, latch⟩ := h
    rw [startPort_some active, handReport_frame]
    exact ⟨_, _, _, rfl, (handReport_clockLatch _ _).trans latch⟩

theorem portsMoved_startPorts (s : State) : PortsMoved s (forEach 12 startPort s) :=
  Kept.forEach (P := PortsMoved s) 12 (fun i _ h => portsMoved_startPort i h) ⟨_, _, _, rfl, rfl⟩

theorem startPort_ports (i : PortId) (s : State) : (startPort i s).ports = s.ports.set i (s.ports[i].started s.ticks) := by
  cases active : s.ports[i].active with
  | none =>
    have same : s.ports[i].started s.ticks = s.ports[i] := by simp only [Port.started, active]
    rw [startPort_none active, same]
    exact (Vector.set_getElem_self _).symm
  | some x =>
    rw [startPort_some active, handReport_frame]
    rfl

theorem startPort_other {i j : PortId} (apart : i ≠ j) (s : State) : (startPort i s).ports[j] = s.ports[j] := by
  rw [startPort_ports]
  exact Vector.getElem_set_ne i.isLt j.isLt fun h => apart (Fin.ext h)

theorem startPort_clock (i : PortId) (s : State) : (startPort i s).clock = s.clock := by
  obtain ⟨_, _, _, frame, _⟩ := portsMoved_startPort i (s := s) ⟨_, _, _, rfl, rfl⟩
  rw [frame]

theorem startPorts_ports (s : State) (i : PortId) : (forEach 12 startPort s).ports[i] = s.ports[i].started s.ticks :=
  forEach_items (f := startPort) (item := fun i (t : State) => t.ports[i]) (fun t => t.clock = s.clock)
    (fun i t h => (startPort_clock i t).trans h) (fun i j t apart _ => startPort_other apart t) s rfl
    (fun i t clock own => by
      rw [startPort_ports, own, ticks, clock]
      exact Vector.getElem_set_self i.isLt)
    i

theorem startPorts_hands {s : State} (beginning : s.here = { frame := 0, tick := 0 }) : HandsReports s (forEach 12 startPort s)
    ((List.finRange 12).flatMap fun i => (s.ports[i].active.map fun x => startedReport (portStarted i s.ticks x)).toList) :=
  handsReports_forEach (f := startPort) (item := fun i (t : State) => t.ports[i]) (fun t => t.clock = s.clock)
    (fun i t h => (startPort_clock i t).trans h) (fun i j t apart _ => startPort_other apart t) s rfl
    (fun i t clock own => by
      have here : t.here = { frame := 0, tick := 0 } := by rw [← beginning, State.here, State.here, clock]
      have ticks : t.ticks = s.ticks := by rw [State.ticks, State.ticks, clock]
      rw [← own]
      cases active : t.ports[i].active with
      | none =>
        rw [startPort_none active]
        exact handsReports_self t
      | some x =>
        rw [startPort_some active, here, ticks]
        exact handsReports_then (s := t) (t := t.setPort i (t.ports[i].started s.ticks)) rfl rfl (startedReport (portStarted i s.ticks x)))

/-! ## Devices at the START instant (R97) -/

theorem startDevice_none {s : State} {d : DeviceId} (absent : s.devices[d] = none) : startDevice d s = s := by
  simp only [startDevice, absent]

theorem startDevice_absent {s : State} {d : DeviceId} {x : Device} (enrolled : s.devices[d] = some x) (state : x.state = .absent) :
    startDevice d s = s.setDevice d (some x.restart) := by
  simp only [startDevice, enrolled, state, if_true]

theorem startDevice_moved {s : State} {d : DeviceId} {x : Device} (enrolled : s.devices[d] = some x) (state : x.state ≠ .absent) :
    startDevice d s = (s.setDevice d (some x.restart)).handReport
      { position := s.here, urgent := false, body := .deviceState d (some x.state) (some .absent) .start 0 none 0 } := by
  simp only [startDevice, enrolled, if_neg state]
  exact moveDevice_quiet (r := x.restart) (by simp [Device.restart])

/-- Devices, the writer and the store have changed, and the latches of the writer have not. -/
def DevicesMoved (s t : State) : Prop := ∃ devices writer store,
  t = { s with devices := devices, writer := writer, store := store } ∧ writer.clock = s.writer.clock

theorem devicesMoved_startDevice {s t : State} (d : DeviceId) (h : DevicesMoved s t) : DevicesMoved s (startDevice d t) := by
  cases enrolled : t.devices[d] with
  | none => exact (startDevice_none enrolled).symm ▸ h
  | some x =>
    obtain ⟨_, _, _, rfl, latch⟩ := h
    by_cases state : x.state = .absent
    · rw [startDevice_absent enrolled state]
      exact ⟨_, _, _, rfl, latch⟩
    · rw [startDevice_moved enrolled state, handReport_frame]
      exact ⟨_, _, _, rfl, (handReport_clockLatch _ _).trans latch⟩

theorem devicesMoved_startDevices (s : State) : DevicesMoved s (forEach 16 startDevice s) :=
  Kept.forEach (P := DevicesMoved s) 16 (fun d _ h => devicesMoved_startDevice d h) ⟨_, _, _, rfl, rfl⟩

theorem startDevice_devices (d : DeviceId) (s : State) :
    (startDevice d s).devices = s.devices.set d (s.devices[d].map Device.restart) := by
  cases enrolled : s.devices[d] with
  | none =>
    rw [startDevice_none enrolled, Option.map_none, ← enrolled]
    exact (Vector.set_getElem_self _).symm
  | some x =>
    by_cases state : x.state = .absent
    · rw [startDevice_absent enrolled state]
      rfl
    · rw [startDevice_moved enrolled state, handReport_frame]
      rfl

theorem startDevice_other {d e : DeviceId} (apart : d ≠ e) (s : State) : (startDevice d s).devices[e] = s.devices[e] := by
  rw [startDevice_devices]
  exact Vector.getElem_set_ne d.isLt e.isLt fun h => apart (Fin.ext h)

theorem startDevices_devices (s : State) (d : DeviceId) : (forEach 16 startDevice s).devices[d] = s.devices[d].map Device.restart :=
  forEach_items (f := startDevice) (item := fun d (t : State) => t.devices[d]) (fun _ => True) (fun _ _ _ => trivial)
    (fun _ _ t apart _ => startDevice_other apart t) s trivial
    (fun d t _ own => by
      rw [startDevice_devices, own]
      exact Vector.getElem_set_self d.isLt)
    d

/-- R97: the report of a device at the START instant, when its state is not ABSENT. -/
def deviceStarted (d : DeviceId) (device : Option Device) : Option Report :=
  (device.filter fun x => x.state != .absent).map fun x =>
    startedReport (.deviceState d (some x.state) (some .absent) .start 0 none 0)

theorem startDevices_hands {s : State} (beginning : s.here = { frame := 0, tick := 0 }) :
    HandsReports s (forEach 16 startDevice s)
      ((List.finRange 16).flatMap fun d => (deviceStarted d s.devices[d]).toList) :=
  handsReports_forEach (f := startDevice) (item := fun d (t : State) => t.devices[d]) (DevicesMoved s)
    (fun d _ h => devicesMoved_startDevice d h) (fun _ _ t apart _ => startDevice_other apart t) s ⟨_, _, _, rfl, rfl⟩
    (fun d t moved own => by
      have here : t.here = { frame := 0, tick := 0 } := by
        obtain ⟨_, _, _, rfl, _⟩ := moved
        exact beginning
      rw [← own]
      cases enrolled : t.devices[d] with
      | none =>
        rw [startDevice_none enrolled]
        exact handsReports_self t
      | some x =>
        by_cases state : x.state = .absent
        · have silent : deviceStarted d (some x) = none := by simp [deviceStarted, Option.filter, state]
          rw [startDevice_absent enrolled state, silent]
          exact handsReports_none rfl rfl
        · have told : deviceStarted d (some x) =
              some (startedReport (.deviceState d (some x.state) (some .absent) .start 0 none 0)) := by
            simp [deviceStarted, Option.filter, state]
          rw [startDevice_moved enrolled state, here, told]
          exact handsReports_then (s := t) (t := t.setDevice d (some x.restart)) rfl rfl (startedReport _))

end Sys2Proof.Machine
end

section
/-! SUPPORT. The START instant (R6, R34, R42, R70, R97, R121, R170) in every block. -/

namespace Sys2Proof.Machine

open State

/-! ## From the clock to the blocks (R6, R23, R34, R97) -/

/-- R6: the report CLOCK_STATE of the START instant. -/
def clockStarted (x : StartSetting) : ReportBody :=
  .clockState .stopped (if x.refUse then .locking else .freeRun) .start none

/-- R6, R22: the clock started and its reason latched, before the report. -/
def State.clockBegun (s : State) (x : StartSetting) : State :=
  { s with clock := s.clock.started x, writer := { s.writer with clock := true } }

theorem startReport_eq (s : State) (x : StartSetting) :
    s.startReport x = (s.clockBegun x).handReport (startedReport (clockStarted x)) := rfl

/-- R6: the START instant up to the ports and the devices. -/
def State.blocksBegun (s : State) (x : StartSetting) : State := (s.startReport x).writeMirror.startBlocks

theorem startClock_eq (s : State) (x : StartSetting) :
    s.startClock x = (s.counted.closeSilences.blocksBegun x).startPins.startRest := rfl

/-- R6, R34, R97: the reports of the START instant, in their order. -/
def startReports (s : State) (x : StartSetting) : List ReportBody :=
  clockStarted x ::
    ((List.finRange 12).filterMap fun i => s.ports[i].active.map (portStarted i (rateTicks x.rate))) ++
    (List.finRange 16).filterMap fun d => (s.devices[d].filter fun y => y.state != .absent).map fun y =>
      .deviceState d (some y.state) (some .absent) .start 0 none 0

section
variable (s : State) (x : StartSetting)

/-- The START instant has changed the clock, the writer and the store. -/
theorem mirrorBegun_frame : ∃ writer store, (s.startReport x).writeMirror =
    { s with clock := s.clock.started x, writer := writer, store := store } ∧ writer.clock = true := by
  rw [writeMirror_frame, startReport_eq, handReport_frame]
  exact ⟨_, _, rfl, handReport_clockLatch (s.clockBegun x) _⟩

/-- What the ports and the devices change at the START instant. -/
theorem startBlocks_frame : ∃ ports devices writer store, s.startBlocks =
    { s with ports := ports, devices := devices, writer := writer, store := store } ∧ writer.clock = s.writer.clock := by
  obtain ⟨_, _, _, ports, kept⟩ := portsMoved_startPorts s
  obtain ⟨_, _, _, devices, still⟩ := devicesMoved_startDevices (forEach 12 startPort s)
  rw [startBlocks, devices, ports]
  rw [ports] at still
  exact ⟨_, _, _, _, rfl, still.trans kept⟩

theorem startBlocks_ports (i : PortId) : s.startBlocks.ports[i] = s.ports[i].started s.ticks := by
  obtain ⟨_, _, _, devices, _⟩ := devicesMoved_startDevices (forEach 12 startPort s)
  have same : s.startBlocks.ports = (forEach 12 startPort s).ports := by rw [startBlocks, devices]
  rw [← startPorts_ports, same]

theorem startBlocks_devices (d : DeviceId) : s.startBlocks.devices[d] = s.devices[d].map Device.restart := by
  obtain ⟨_, _, _, ports, _⟩ := portsMoved_startPorts s
  rw [startBlocks, startDevices_devices, ports]

theorem startBlocks_hands (beginning : s.here = { frame := 0, tick := 0 }) : HandsReports s s.startBlocks
    (((List.finRange 12).flatMap fun i => (s.ports[i].active.map fun x => startedReport (portStarted i s.ticks x)).toList) ++
      (List.finRange 16).flatMap fun d => (deviceStarted d s.devices[d]).toList) := by
  obtain ⟨_, _, _, moved, _⟩ := portsMoved_startPorts s
  have here : (forEach 12 startPort s).here = { frame := 0, tick := 0 } := by rw [moved]; exact beginning
  have same : (forEach 12 startPort s).devices = s.devices := by rw [moved]
  have devices := startDevices_hands here
  rw [same] at devices
  exact (startPorts_hands beginning).trans devices

theorem blocksBegun_frame : ∃ ports devices writer store, s.blocksBegun x =
    { s with clock := s.clock.started x, ports := ports, devices := devices, writer := writer, store := store } ∧
      writer.clock = true := by
  obtain ⟨_, _, begun, latch⟩ := mirrorBegun_frame s x
  obtain ⟨_, _, _, _, moved, kept⟩ := startBlocks_frame (s.startReport x).writeMirror
  rw [blocksBegun, moved, begun]
  rw [begun] at kept
  exact ⟨_, _, _, _, rfl, kept.trans latch⟩

theorem blocksBegun_ports (i : PortId) : (s.blocksBegun x).ports[i] = s.ports[i].started (rateTicks x.rate) := by
  obtain ⟨_, _, begun, _⟩ := mirrorBegun_frame s x
  rw [blocksBegun, startBlocks_ports, begun]
  rfl

theorem blocksBegun_devices (d : DeviceId) : (s.blocksBegun x).devices[d] = s.devices[d].map Device.restart := by
  obtain ⟨_, _, begun, _⟩ := mirrorBegun_frame s x
  rw [blocksBegun, startBlocks_devices, begun]

theorem startReport_hands : HandsReports s (s.startReport x) [startedReport (clockStarted x)] := by
  obtain ⟨bus, queue, accepted⟩ := handsReports_handReport (s.clockBegun x) (startedReport (clockStarted x))
  exact ⟨bus, queue, accepted⟩

theorem startReports_map : (startReports s x).map startedReport = [startedReport (clockStarted x)] ++
    (((List.finRange 12).flatMap fun i =>
        (s.ports[i].active.map fun y => startedReport (portStarted i (rateTicks x.rate) y)).toList) ++
      (List.finRange 16).flatMap fun d => (deviceStarted d s.devices[d]).toList) := by
  simp only [startReports, deviceStarted, List.map_cons, List.map_append, List.map_filterMap, Option.map_map,
    ← List.filterMap_eq_flatMap_toList, List.cons_append, List.nil_append]
  rfl

theorem blocksBegun_hands : HandsReports s (s.blocksBegun x) ((startReports s x).map startedReport) := by
  obtain ⟨_, _, begun, _⟩ := mirrorBegun_frame s x
  have mirror : HandsReports s (s.startReport x).writeMirror [startedReport (clockStarted x)] :=
    (startReport_hands s x).then_none (by rw [writeMirror_frame]) (by rw [writeMirror_frame])
  have blocks := startBlocks_hands (s.startReport x).writeMirror (by rw [begun]; rfl)
  have ports : (s.startReport x).writeMirror.ports = s.ports := by rw [begun]
  have devices : (s.startReport x).writeMirror.devices = s.devices := by rw [begun]
  have ticks : (s.startReport x).writeMirror.ticks = rateTicks x.rate := by rw [begun]; rfl
  rw [ports, devices, ticks] at blocks
  rw [startReports_map]
  exact mirror.trans blocks

theorem onlyMirrorWritten_startPort {s t : State} (i : PortId) (h : OnlyMirrorWritten s t) :
    OnlyMirrorWritten s (startPort i t) := by
  cases active : t.ports[i].active with
  | none => exact (startPort_none active).symm ▸ h
  | some y =>
    rw [startPort_some active]
    exact onlyMirrorWritten_handReport (s := s) (t := t.setPort i _) _ h

theorem onlyMirrorWritten_startDevice {s t : State} (d : DeviceId) (h : OnlyMirrorWritten s t) :
    OnlyMirrorWritten s (startDevice d t) := by
  cases enrolled : t.devices[d] with
  | none => exact (startDevice_none enrolled).symm ▸ h
  | some y =>
    by_cases state : y.state = .absent
    · rw [startDevice_absent enrolled state]
      exact h
    · rw [startDevice_moved enrolled state]
      exact onlyMirrorWritten_handReport (s := s) (t := t.setDevice d _) _ h

theorem onlyMirrorWritten_blocksBegun (sound : s.storeSound) : OnlyMirrorWritten s (s.blocksBegun x) := by
  have same : OnlyMirrorWritten s (s.clockBegun x) := ⟨sound, fun _ _ => rfl⟩
  have mirror : OnlyMirrorWritten s (s.startReport x).writeMirror := by
    rw [startReport_eq]
    exact onlyMirrorWritten_writeMirror (onlyMirrorWritten_handReport _ same)
  rw [blocksBegun]
  exact Kept.forEach (P := OnlyMirrorWritten s) 16 (fun d _ h => onlyMirrorWritten_startDevice d h)
    (Kept.forEach (P := OnlyMirrorWritten s) 12 (fun i _ h => onlyMirrorWritten_startPort i h) mirror)

/-! ## The rest of the START instant (R42, R70, R121, R170) -/

/-- What the START instant leaves outside the clock, the ports, the devices, the writer and the store. -/
theorem startRest_frame {t : State} : t.startPins.startRest =
    { t with lines := t.lines.map (Line.follow t.groupOpen), outputs := t.outputs.map Output.start
             marks := t.marks.map fun m => { m with reArm := none }, owed := { t.owed with check := true }
             scanner := t.startPins.startRest.scanner } := by
  simp only [startRest, scanRequest]
  split <;> rfl

end

/-- R170: START resets the idle count and makes a scan request. -/
theorem startRest_scanner {t : State} (ready : t.bus.ready = true) : t.startPins.startRest.scanner.idle = 0 ∧
    (t.scanner.point = none → t.startPins.startRest.scanner.point = some 0 ∧
      t.startPins.startRest.scanner.requested = t.scanner.requested) ∧
    (t.scanner.point ≠ none → t.startPins.startRest.scanner.point = t.scanner.point ∧
      t.startPins.startRest.scanner.requested = true) := by
  let r : State := (t.startPins.armLatches.setScanner { t.scanner with idle := 0 }).setOwed { t.owed with check := true }
  have request : t.startPins.startRest = r.scanRequest := rfl
  rw [request]
  by_cases idle : t.scanner.point = none
  · rw [scanRequest_starts (s := r) ready idle]
    exact ⟨rfl, fun _ => ⟨rfl, rfl⟩, fun busy => absurd idle busy⟩
  · rw [scanRequest_waits (s := r) idle]
    exact ⟨rfl, fun free => absurd free idle, fun _ => ⟨rfl, rfl⟩⟩

theorem follow_some {isOpen : GroupId → Bool} {l : Line} {g : GroupId} (bound : l.group = some g) :
    l.follow isOpen = { l with level := isOpen g } := by
  simp only [Line.follow, bound]

theorem follow_none {isOpen : GroupId → Bool} {l : Line} (free : l.group = none) : l.follow isOpen = l := by
  simp only [Line.follow, free]

theorem port_started_some {m : Nat} {p : Port} {x : PortSetting} (active : p.active = some x) : p.started m =
    if x.valid m then { p with anchor := 0, cadenceFrame := 0, level := false, pulse := none, nextEvent := 0 }
    else { p with active := none, level := false, pulse := none } := by
  simp only [Port.started, Port.anchorAt, active]

theorem port_started_none {m : Nat} {p : Port} (off : p.active = none) : p.started m = p := by
  simp only [Port.started, off]

/-- R5, R6: the part once CLOCK_START is carried out and has handed its completion. -/
def State.clockStartDone (s : State) (n : SlotId) (x : StartSetting) : State :=
  completeSlot n .done Reply.zero none (s.blocksBegun x).startPins.startRest

section
variable (s : State) (n : SlotId) (x : StartSetting)

theorem startRest_bus (t : State) : t.startPins.startRest.bus = t.bus := by rw [startRest_frame]

theorem startRest_writer (t : State) : t.startPins.startRest.writer = t.writer := by rw [startRest_frame]

theorem completeSlot_frame (code reply record) (t : State) :
    completeSlot n code reply record t = { t with writer := (completeSlot n code reply record t).writer } :=
  handCompletion_frame _ _

theorem clockStartDone_frame : ∃ ports devices scanner writer store, s.clockStartDone n x = { s with
      clock := s.clock.started x, ports := ports, devices := devices, lines := s.lines.map (Line.follow s.groupOpen)
      outputs := s.outputs.map Output.start, marks := s.marks.map fun m => { m with reArm := none }
      owed := { s.owed with check := true }, scanner := scanner, writer := writer, store := store } ∧
    ports = (s.blocksBegun x).ports ∧ devices = (s.blocksBegun x).devices ∧
    scanner = (s.blocksBegun x).startPins.startRest.scanner ∧ store = (s.blocksBegun x).store := by
  obtain ⟨_, _, _, _, begun, _⟩ := blocksBegun_frame s x
  rw [clockStartDone, completeSlot_frame, startRest_frame]
  generalize (s.blocksBegun x).startPins.startRest.scanner = scanner
  rw [begun]
  exact ⟨_, _, scanner, _, _, rfl, rfl, rfl, rfl, rfl⟩

variable {s} (ready : s.bus.ready = true)
include ready

theorem clockStartDone_writer : (s.clockStartDone n x).writer = { (s.blocksBegun x).writer with
    queue := (s.blocksBegun x).writer.queue ++ [.completion
      { slot := n, code := .done, frame := 0, fired := 0, missed := 0, reply := Reply.zero, record := none
        fence := (s.blocksBegun x).writer.accepted }] } := by
  have still : (s.blocksBegun x).startPins.startRest.bus.ready = true := by
    rw [startRest_bus, (blocksBegun_hands s x).bus]
    exact ready
  have frame : (s.blocksBegun x).startPins.startRest.frame = 0 := by
    obtain ⟨_, _, _, _, begun, _⟩ := blocksBegun_frame s x
    rw [startRest_frame, begun]
    rfl
  rw [clockStartDone, completeSlot, handCompletion_accepted still, startRest_writer, frame]

theorem clockStartDone_clockLatch : (s.clockStartDone n x).writer.clock = true := by
  obtain ⟨_, _, _, _, begun, latch⟩ := blocksBegun_frame s x
  rw [clockStartDone_writer n x ready, begun]
  exact latch

theorem clockStartDone_queue (room : reportsWaiting s.writer.queue + (startReports s x).length ≤ 64) :
    (s.clockStartDone n x).writer.queue =
      s.writer.queue ++ ((startReports s x).map startedReport).map .report ++ [.completion
        { slot := n, code := .done, frame := 0, fired := 0, missed := 0, reply := Reply.zero, record := none
          fence := s.writer.accepted + BitVec.ofNat 32 (startReports s x).length }] := by
  have length : ((startReports s x).map startedReport).length = (startReports s x).length := List.length_map _
  have hands := blocksBegun_hands s x
  rw [clockStartDone_writer n x ready, hands.queue ready (length ▸ room), hands.accepted ready (length ▸ room), length]

theorem clockStartDone_scanner : (s.clockStartDone n x).scanner.idle = 0 ∧
    (s.scanner.point = none → (s.clockStartDone n x).scanner.point = some 0 ∧
      (s.clockStartDone n x).scanner.requested = s.scanner.requested) ∧
    (s.scanner.point ≠ none → (s.clockStartDone n x).scanner.point = s.scanner.point ∧
      (s.clockStartDone n x).scanner.requested = true) := by
  obtain ⟨_, _, _, _, begun, _⟩ := blocksBegun_frame s x
  obtain ⟨_, _, _, _, _, done, _, _, same, _⟩ := clockStartDone_frame s n x
  have still : (s.blocksBegun x).bus.ready = true := by rw [begun]; exact ready
  have scanner := startRest_scanner still
  have point : (s.blocksBegun x).scanner = s.scanner := by rw [begun]
  rw [point, ← same] at scanner
  rw [done]
  exact scanner

end

theorem onlyMirrorWritten_clockStartDone {s : State} (sound : s.storeSound) (n : SlotId) (x : StartSetting) :
    OnlyMirrorWritten s (s.clockStartDone n x) := by
  obtain ⟨_, _, _, _, _, done, _, _, _, kept⟩ := clockStartDone_frame s n x
  have store : (s.clockStartDone n x).store = (s.blocksBegun x).store := (congrArg State.store done).trans kept
  obtain ⟨wf, same⟩ := onlyMirrorWritten_blocksBegun s x sound
  refine ⟨?_, fun a outside => ?_⟩
  · rw [storeSound, store]
    exact wf
  · rw [State.word, store]
    exact same a outside

theorem orderTaken_bus (n : SlotId) (t : Timing) (o : Order) (u : State) : (orderTaken n t o u).bus = u.bus := by
  rw [orderTaken_frame]

theorem counted_bus (s : State) : s.counted.bus = s.bus := by
  rw [counted]
  split <;> rfl

/-- Settles O21: CLOCK_START by the clock's state and its arguments; the START instant block by block. -/
theorem clockStartBeginsPictureTime : Obligations.ClockStartBeginsPictureTime := by
  refine ⟨fun a => ⟨readStart_eq_none a, fun x read => ?_⟩, fun w n t a s => ?_⟩
  · obtain ⟨_, rfl⟩ := (readStart_eq_some x).mp read
    exact ⟨rfl, rfl, rfl, rfl⟩
  · intro v ready atOnce
    have completes {s' : State} {code : ResultCode} (answer : v.ownClockStart a = (s', .completes code Reply.zero none)) :
        exec (.clockStart w n t a) s = .next (completeSlot n code Reply.zero none s') := exec_clockStart ready atOnce answer
    have opened : v.bus.ready = true := (congrArg Bus.ready (orderTaken_bus n t _ _)).trans ready
    clear_value v
    refine ⟨fun moving => completes (ownClockStart_running moving),
      fun stopped bad => completes (ownClockStart_refused stopped bad), fun x stopped read => ?_⟩
    have row := completes (ownClockStart_started stopped read)
    rw [startClock_eq] at row
    have ready : v.counted.closeSilences.bus.ready = true := by
      obtain ⟨_, _, _, _, moved⟩ := rosterMoved_closeSilences (counted_owed_count v)
      rw [moved]
      exact (congrArg Bus.ready (counted_bus v)).trans opened
    intro c
    have closed : v.counted.closeSilences = c := rfl
    rw [closed] at ready row
    clear_value c
    obtain ⟨_, _, _, _, _, done, ports, devices, _, _⟩ := clockStartDone_frame c n x
    obtain ⟨idle, scans, waits⟩ := clockStartDone_scanner n x ready
    refine ⟨c.clockStartDone n x, row, ?_, clockStartDone_clockLatch n x ready, idle, scans, waits, ?_, fun i => ?_, fun i => ?_,
      fun o => ?_, fun d => ?_, fun i => ?_, ?_⟩
    · rw [done]
      rfl
    · intro report portReports deviceReports reports room
      have same : reports = ((startReports c x).map startedReport).map .report := by
        simp only [startReports, List.map_cons, List.map_append, List.map_filterMap, Option.map_map]
        rfl
      have length : reports.length = (startReports c x).length := by rw [same, List.length_map, List.length_map]
      rw [length] at room ⊢
      rw [clockStartDone_queue n x ready room, same]
    · have line : (c.clockStartDone n x).lines[i] = c.lines[i].follow c.groupOpen := by
        rw [done]
        exact Vector.getElem_map _ i.isLt
      rw [line]
      exact ⟨fun g => follow_some, follow_none⟩
    · have port : (c.clockStartDone n x).ports[i] = c.ports[i].started (rateTicks x.rate) := by
        rw [← blocksBegun_ports, ← ports, done]
      rw [port]
      exact ⟨fun p => port_started_some, port_started_none⟩
    · rw [done]
      exact Vector.getElem_map _ o.isLt
    · have device : (c.clockStartDone n x).devices[d] = c.devices[d].map Device.restart := by
        rw [← blocksBegun_devices c x, ← devices, done]
      exact device
    · rw [done]
      exact Vector.getElem_map _ i.isLt
    · refine ⟨?_, ?_, ?_, ?_, ?_, ?_, ?_, ?_, ?_, fun sound => (onlyMirrorWritten_clockStartDone sound n x).2⟩ <;> rw [done]

end Sys2Proof.Machine
end

section
/-! SUPPORT. A soft reset (R166 with R4, R25, R37, R73, R100, R115, R118, R145) in every block. -/

namespace Sys2Proof.Machine

open State

theorem writeReset_closed {s : State} (closed : s.bus.ready = false) (v : Word) : writeReset v s = s :=
  if_neg fun h => Bool.noConfusion (closed.symm.trans h.1)

theorem writeReset_open {s : State} (ready : s.bus.ready = true) : writeReset 1 s = s.softReset := if_pos ⟨ready, rfl⟩

theorem line_softReset (l : Line) :
    l.softReset = { l with level := l.group.isSome && l.level, pulse := none, pending := none } := by
  cases bound : l.group with
  | none => simp only [Line.softReset, bound, Option.isSome_none, Bool.false_and]
  | some g => simp only [Line.softReset, bound, Option.isSome_some, Bool.true_and]

/-- R73: an output that is sending a burst has one word left, and one that was waking, or bursting in BURST mode, is cut. -/
theorem output_softReset (x : Output) : ∃ wordsLeft cut, x.softReset =
      { x with request := none, pending := none, wordsLeft := wordsLeft, cut := cut } ∧
    wordsLeft = (if x.state = .waking ∨ x.state = .bursting then some 1 else x.wordsLeft) ∧
    (x.state = .waking → cut = true) ∧ (x.state = .bursting → x.settings.mode = .burst → cut = true) := by
  cases state : x.state
  case waking => exact ⟨some 1, true, by simp only [Output.softReset, state], rfl, fun _ => rfl, fun _ _ => rfl⟩
  case bursting =>
    refine ⟨some 1, x.cut || x.settings.mode == .burst, by simp only [Output.softReset, state], rfl, nofun, fun _ mode => ?_⟩
    rw [mode]
    exact Bool.or_true _
  all_goals exact ⟨x.wordsLeft, x.cut, by simp only [Output.softReset, state], rfl, nofun, nofun⟩

theorem resetGroup_open {s : State} {g : Group} {k : Take} (current : g.current = some k) :
    s.resetGroup g = { g with take := some { k with closed := some (s.here, .reset) } } := by
  simp only [resetGroup, current]
  rfl

theorem resetGroup_closed {s : State} {g : Group} (current : g.current = none) : s.resetGroup g = g := by
  simp only [resetGroup, current]

/-- R145: a soft reset leaves no take open, and changes neither the counter nor the next tag. -/
theorem resetGroup_kept (s : State) (g : Group) : (s.resetGroup g).isOpen = false ∧ (s.resetGroup g).counter = g.counter ∧
    (s.resetGroup g).nextTag = g.nextTag := by
  cases current : g.current with
  | none =>
    rw [resetGroup_closed current]
    exact ⟨not_isOpen_of_current current, rfl, rfl⟩
  | some k =>
    rw [resetGroup_open current]
    exact ⟨rfl, rfl, rfl⟩

/-- Settles O9: a soft reset by READY, and then block by block. -/
theorem softResetInEveryBlock : Obligations.SoftResetInEveryBlock := by
  intro w s u
  have row : exec (.softReset w) s = .next (writeReset 1 u) := rfl
  clear_value u
  rw [row]
  refine ⟨fun closed => by rw [writeReset_closed closed], fun ready => ⟨u.softReset, by rw [writeReset_open ready], rfl, rfl, rfl,
    rfl, rfl, rfl, rfl, rfl, rfl, rfl, rfl, fun o => ?_, rfl, fun i => ?_, fun i => ?_, fun o => ?_, fun d => ?_, fun i => ?_,
    fun g => ?_⟩⟩
  · exact Vector.getElem_replicate o.isLt
  · exact Vector.getElem_map _ i.isLt
  · exact (Vector.getElem_map _ i.isLt).trans (line_softReset _)
  · intro x y
    have output : y = x.softReset := Vector.getElem_map _ o.isLt
    obtain ⟨wordsLeft, cut, reset, words, waking, bursting⟩ := output_softReset x
    clear_value y
    rw [output, reset]
    exact ⟨rfl, rfl, rfl, rfl, rfl, rfl, rfl, rfl, words, waking, bursting⟩
  · exact Vector.getElem_map _ d.isLt
  · exact Vector.getElem_map _ i.isLt
  · have group : u.softReset.groups[g] = u.resetGroup u.groups[g] := Vector.getElem_map _ g.isLt
    obtain ⟨closed, counter, tag⟩ := resetGroup_kept u u.groups[g]
    rw [group]
    exact ⟨closed, counter, tag, fun k current => congrArg Group.take (resetGroup_open current), resetGroup_closed⟩

end Sys2Proof.Machine
end

section
/-! SUPPORT. The end of the store initialisation (R162, R164, R166): the words it writes, and what it accepts of the kept queue. -/

namespace Sys2Proof.Machine

open State

/-! ## The words of the initialisation (R162, R164) -/

/-- R162: the header words with a meaning of their own. -/
def State.headerFront (s : State) : List Word :=
  [0x5043, 1, if s.bus.hard then 1 else 2, s.writer.written, num s.writer.dropped, lo16 s.frame, hi16 s.frame,
    s.clock.state.code] ++ List.replicate 8 0 ++ [0, 1, 0, 0]

theorem headerWords_eq (s : State) : s.headerWords = s.headerFront ++ List.replicate 236 0 := rfl

theorem headerFront_length (s : State) : s.headerFront.length = 20 := rfl

theorem headerWords_length (s : State) : s.headerWords.length = 256 := by
  rw [headerWords_eq, List.length_append, headerFront_length, List.length_replicate]

theorem headerWords_front (s : State) {k : Nat} (low : k < 20) : s.headerWords[k]! = s.headerFront[k]! := by
  rw [headerWords_eq, getElem!_pos _ k (by rw [List.length_append, headerFront_length]; omega),
    List.getElem_append_left (by rw [headerFront_length]; exact low), getElem!_pos]

theorem headerWords_gap (s : State) {k : Nat} (low : 8 ≤ k) (high : k ≤ 15) : s.headerWords[k]! = 0 := by
  rw [headerWords_front s (by omega)]
  interval_cases k <;> rfl

theorem headerWords_rest (s : State) {k : Nat} (low : 20 ≤ k) (high : k < 256) : s.headerWords[k]! = 0 := by
  rw [headerWords_eq, getElem!_pos _ k (by rw [List.length_append, headerFront_length, List.length_replicate]; omega),
    List.getElem_append_right (by rw [headerFront_length]; exact low), List.getElem_replicate]

theorem freeSlots_state {s : State} (sound : s.storeSound) (n : SlotId) : s.freeSlots.word (0x0100 + 32 * n.val) = 0 :=
  forEach_items (f := fun n s => s.putSlotState n SlotState.free) (item := fun n (t : State) => t.word (0x0100 + 32 * n.val))
    (g := fun _ => 0) storeSound (fun n _ h => kept_storeSound.putSlotState n _ h)
    (fun i j t apart h => (word_putWord h _ _ _).trans (if_neg fun same => apart (Fin.ext (by
      have : 0x0100 + 32 * j.val = 0x0100 + 32 * i.val := same
      omega))))
    s sound (fun n t h _ => (word_putWord h _ _ _).trans (if_pos rfl)) n

theorem freeSlots_other {s : State} (sound : s.storeSound) {a : Nat} (other : ∀ n : SlotId, a ≠ 0x0100 + 32 * n.val) :
    s.freeSlots.word a = s.word a := by
  have whole : s.freeSlots.storeSound ∧ s.freeSlots.word a = s.word a := by
    refine Kept.forEach (P := fun t => t.storeSound ∧ t.word a = s.word a) 64 (fun n t h => ?_) ⟨sound, rfl⟩
    obtain ⟨wf, same⟩ := h
    exact ⟨kept_storeSound.putSlotState n _ wf, ((word_putWord wf _ _ _).trans (if_neg (other n))).trans same⟩
  exact whole.2

theorem freeSlots_frame (s : State) : s.freeSlots = { s with store := s.freeSlots.store } := by
  refine Kept.forEach (P := fun t => t = { s with store := t.store }) 64 (fun n t h => ?_) rfl
  rw [h]
  rfl

/-- What the initialisation writes over: nothing after a hard reset, the slots freed after a soft one. -/
def State.initBase (s : State) : State := if s.bus.hard then { s with store := [] } else s.freeSlots

theorem initStore_eq (s : State) : s.initStore = s.initBase.putWords 0 s.headerWords := rfl

theorem initBase_hard {s : State} (hard : s.bus.hard = true) : s.initBase = { s with store := [] } := if_pos hard

theorem initBase_soft {s : State} (soft : s.bus.hard = false) : s.initBase = s.freeSlots := if_neg (Bool.eq_false_iff.mp soft)

theorem initBase_frame (s : State) : ∃ store, s.initBase = { s with store := store } := by
  cases hard : s.bus.hard with
  | true => exact ⟨_, initBase_hard hard⟩
  | false => exact ⟨_, (initBase_soft hard).trans (freeSlots_frame s)⟩

theorem initStore_frame (s : State) : ∃ store, s.initStore = { s with store := store } := by
  obtain ⟨_, base⟩ := initBase_frame s
  rw [initStore_eq, base]
  exact ⟨_, rfl⟩

section
variable {s : State} (sound : s.storeSound)
include sound

theorem initBase_sound : s.initBase.storeSound := by
  rw [State.initBase]
  split
  · exact Memory.wf_nil
  · exact kept_storeSound.freeSlots sound

theorem word_initStore_header {k : Nat} (header : k < 256) : s.initStore.word k = s.headerWords[k]! := by
  have word := word_putWords_at (initBase_sound sound) (a := 0) (ws := s.headerWords) (k := k) (by
    rw [headerWords_length]
    exact header)
  rw [Nat.zero_add] at word
  exact word

theorem word_initStore_above {a : Nat} (above : 256 ≤ a) : s.initStore.word a = s.initBase.word a :=
  word_putWords_other (initBase_sound sound) (.inr (by rw [headerWords_length]; omega))

theorem word_initStore_hard (hard : s.bus.hard = true) {a : Nat} (above : 256 ≤ a) : s.initStore.word a = 0 := by
  rw [word_initStore_above sound above, initBase_hard hard]
  simp [State.word, Memory.word, Memory.get]

theorem word_initStore_slot (n : SlotId) : s.initStore.word (0x0100 + 32 * n.val) = 0 := by
  cases hard : s.bus.hard with
  | true => exact word_initStore_hard sound hard (by omega)
  | false =>
    rw [word_initStore_above sound (by omega), initBase_soft hard]
    exact freeSlots_state sound n

theorem word_initStore_soft (soft : s.bus.hard = false) {a : Nat} (above : 256 ≤ a)
    (other : ∀ n : SlotId, a ≠ 0x0100 + 32 * n.val) : s.initStore.word a = s.word a := by
  rw [word_initStore_above sound above, initBase_soft soft]
  exact freeSlots_other sound other

end

/-! ## What was kept is accepted (R166, R174) -/

/-- The writer has changed, and of the store the dropped total at most. -/
def OnlyWriterMoved (s t : State) : Prop :=
  t = { s with writer := t.writer, store := t.store } ∧ t.storeSound ∧ ∀ a, a ≠ 4 → t.word a = s.word a

theorem onlyWriterMoved_setWriter {s t : State} (w : Writer) (h : OnlyWriterMoved s t) : OnlyWriterMoved s (t.setWriter w) := by
  obtain ⟨frame, sound, words⟩ := h
  refine ⟨?_, sound, words⟩
  rw [frame]
  rfl

theorem onlyWriterMoved_countDrop {s t : State} (h : OnlyWriterMoved s t) : OnlyWriterMoved s t.countDrop := by
  rw [countDrop]
  dsimp only
  split
  · obtain ⟨frame, sound, words⟩ := onlyWriterMoved_setWriter { t.writer with
      dropped := bump t.writer.dropped, gap := bump t.writer.gap } h
    refine ⟨?_, kept_storeSound.word _ _ _ sound, fun a other => ((word_putWord sound _ _ _).trans (if_neg other)).trans (words a other)⟩
    rw [frame]
    rfl
  · exact onlyWriterMoved_setWriter _ h

theorem onlyWriterMoved_acceptReport {s t : State} (r : Report) (h : OnlyWriterMoved s t) :
    OnlyWriterMoved s (t.acceptReport r) := by
  rw [acceptReport]
  dsimp only
  split
  · exact onlyWriterMoved_setWriter _ h
  · exact onlyWriterMoved_countDrop (onlyWriterMoved_setWriter _ h)

theorem onlyWriterMoved_acceptItem {s t : State} (i : QueueItem) (h : OnlyWriterMoved s t) :
    OnlyWriterMoved s (t.acceptItem i) := by
  cases i with
  | report r => exact onlyWriterMoved_acceptReport r h
  | completion c => exact onlyWriterMoved_setWriter _ h

theorem onlyWriterMoved_acceptKept {s : State} (sound : s.storeSound) : OnlyWriterMoved s s.acceptKept :=
  Kept.foldl (P := OnlyWriterMoved s) (fun _ i h => onlyWriterMoved_acceptItem i h) _
    (Kept.foldl (P := OnlyWriterMoved s) (fun _ r h => onlyWriterMoved_acceptReport r h) _
      (onlyWriterMoved_setWriter _ ⟨rfl, sound, fun _ _ => rfl⟩))

theorem acceptReport_queue {s : State} {r : Report} (room : reportsWaiting s.writer.queue < 64) :
    (s.acceptReport r).writer.queue = s.writer.queue ++ [.report r] := by
  rw [acceptReport]
  dsimp only
  rw [if_pos room]
  rfl

/-- R174: reports accepted while all find room join the queue in order. -/
theorem acceptReports_queue {s : State} {own : List Report} (room : reportsWaiting s.writer.queue + own.length ≤ 64) :
    (own.foldl acceptReport s).writer.queue = s.writer.queue ++ own.map .report := by
  induction own generalizing s with
  | nil => exact (List.append_nil _).symm
  | cons r rest ih =>
    rw [List.length_cons] at room
    have joined := acceptReport_queue (s := s) (r := r) (by omega)
    rw [List.foldl_cons, ih (by rw [joined, reportsWaiting_append_report]; omega), joined, List.map_cons, List.append_assoc]
    rfl

theorem reportsWaiting_append_completion (queue : List QueueItem) (c : Completion) :
    reportsWaiting (queue ++ [.completion c]) = reportsWaiting queue := by
  induction queue with
  | nil => rfl
  | cons i rest ih => cases i <;> simp [reportsWaiting, ih]

/-- R166: items accepted while all reports among them find room join the queue, each as one item. -/
theorem acceptItems_queue {s : State} {kept : List QueueItem}
    (room : reportsWaiting s.writer.queue + reportsWaiting kept ≤ 64) :
    ∃ rest, (kept.foldl acceptItem s).writer.queue = s.writer.queue ++ rest ∧ rest.length = kept.length := by
  induction kept generalizing s with
  | nil => exact ⟨[], (List.append_nil _).symm, rfl⟩
  | cons i items ih =>
    have step : ∃ j, (s.acceptItem i).writer.queue = s.writer.queue ++ [j] ∧
        reportsWaiting (s.acceptItem i).writer.queue + reportsWaiting items ≤ 64 := by
      cases i with
      | report r =>
        rw [reportsWaiting] at room
        have joined := acceptReport_queue (s := s) (r := r) (by omega)
        refine ⟨.report r, joined, ?_⟩
        rw [acceptItem, joined, reportsWaiting_append_report]
        omega
      | completion c =>
        refine ⟨.completion { c with fence := s.writer.accepted }, rfl, ?_⟩
        exact (congrArg (· + reportsWaiting items) (reportsWaiting_append_completion s.writer.queue _)).trans_le room
    obtain ⟨j, joined, room⟩ := step
    obtain ⟨rest, queue, length⟩ := ih room
    refine ⟨j :: rest, ?_, by rw [List.length_cons, length, List.length_cons]⟩
    rw [List.foldl_cons, queue, joined, List.append_assoc]
    rfl

theorem acceptKept_queue {s : State} (empty : s.writer.queue = [])
    (room : s.writer.own.length + reportsWaiting s.writer.kept ≤ 64) :
    ∃ rest, s.acceptKept.writer.queue = s.writer.own.map .report ++ rest ∧ rest.length = s.writer.kept.length := by
  have own := acceptReports_queue (s := s.setWriter { s.writer with own := [], kept := [] }) (own := s.writer.own) (by
    rw [setWriter_writer, empty]
    exact (Nat.zero_add _).trans_le (by omega))
  rw [setWriter_writer, empty, List.nil_append] at own
  have kept := acceptItems_queue (kept := s.writer.kept)
    (s := s.writer.own.foldl acceptReport (s.setWriter { s.writer with own := [], kept := [] })) (by
      have waiting := reportsWaiting_append_reports [] s.writer.own
      rw [List.nil_append] at waiting
      rw [own, waiting, reportsWaiting]
      omega)
  rw [own] at kept
  exact kept

/-! ## The end of the initialisation (R164, R170) -/

/-- R164, R166: the store open and what was kept accepted. -/
def State.initialised (s : State) : State := ({ s.initStore with bus := { s.bus with ready := true } } : State).acceptKept

theorem beginPendingScan_eq (s : State) : s.beginPendingScan = s.setScanner { s.scanner with
    requested := false, point := if s.scanner.requested then some 0 else s.scanner.point } := by
  rw [beginPendingScan]
  cases asked : s.scanner.requested with
  | true => rfl
  | false =>
    have same : ({ s.scanner with requested := false } : Scanner) = s.scanner := by rw [← asked]
    exact (congrArg s.setScanner same).symm

theorem storeSound_bus {s : State} (b : Bus) (sound : s.storeSound) : ({ s with bus := b } : State).storeSound := sound

theorem word_bus (s : State) (b : Bus) (a : Nat) : ({ s with bus := b } : State).word a = s.word a := rfl

section
variable {s : State} (sound : s.storeSound)
include sound

/-- What stands once the initialisation has ended: the writer and the store apart, only READY and the scanner have changed. -/
theorem initialisationEnd_frame : ∃ t, s.initialisationEnd = { s with
      bus := { s.bus with ready := true }, writer := t.writer, store := t.store
      scanner := { s.scanner with
        idle := 0, requested := false, point := if s.scanner.requested then some 0 else s.scanner.point } } ∧
    t = s.initialised ∧ t.storeSound ∧ ∀ a, a ≠ 4 → t.word a = s.initStore.word a := by
  have accepted : OnlyWriterMoved { s.initStore with bus := { s.bus with ready := true } } s.initialised :=
    onlyWriterMoved_acceptKept (storeSound_bus _ (kept_storeSound.initStore sound))
  have ended : s.initialisationEnd = (s.initialised.setScanner { s.initStore.scanner with idle := 0 }).beginPendingScan := rfl
  obtain ⟨_, stored⟩ := initStore_frame s
  obtain ⟨frame, wf, words⟩ := accepted
  rw [beginPendingScan_eq] at ended
  refine ⟨s.initialised, ?_, rfl, wf, fun a other => (words a other).trans (word_bus _ _ a)⟩
  generalize s.initialised = t at ended frame ⊢
  rw [stored] at frame
  rw [ended, stored]
  exact congrArg (fun r : State => (r.setScanner { s.scanner with idle := 0 }).setScanner { s.scanner with
    idle := 0, requested := false, point := if s.scanner.requested then some 0 else s.scanner.point }) frame

end

/-- Settles O10: the words of the initialisation, the acceptance of what was kept, and the scan requested meanwhile. -/
theorem initialisationEndOpensTheStore : Obligations.InitialisationEndOpensTheStore := by
  intro w s u sound closed done
  have row : exec (.initialisationEnd w) s = .next (takeIfDue .initialisationEnd u) := rfl
  clear_value u
  have due : u.initDue = true := by
    rw [initDue, closed, done]
    rfl
  rw [takeIfDue_due (e := .initialisationEnd) due] at row
  obtain ⟨t, ended, made, wf, words⟩ := initialisationEnd_frame sound
  have word (a : Nat) (other : a ≠ 4) : u.initialisationEnd.word a = u.initStore.word a := by
    rw [← words a other, ended]
    rfl
  have header {k : Nat} (within : k < 256) (other : k ≠ 4) : u.initialisationEnd.word k = u.headerWords[k]! :=
    (word k other).trans (word_initStore_header sound within)
  have front {k : Nat} (within : k < 20) (other : k ≠ 4) : u.initialisationEnd.word k = u.headerFront[k]! :=
    (header (by omega) other).trans (headerWords_front u within)
  refine ⟨u.initialisationEnd, row, ?_, ?_, ?_, ?_, ?_, ?_, ?_, ?_, ?_, ?_, ?_, ?_, ?_, ?_, ?_, ?_,
    front (k := 0) (by decide) (by decide), front (k := 1) (by decide) (by decide), front (k := 2) (by decide) (by decide),
    front (k := 3) (by decide) (by decide), front (k := 5) (by decide) (by decide), front (k := 6) (by decide) (by decide),
    front (k := 7) (by decide) (by decide), front (k := 16) (by decide) (by decide), front (k := 17) (by decide) (by decide),
    front (k := 18) (by decide) (by decide), front (k := 19) (by decide) (by decide), fun a low high => ?_, fun a low high => ?_,
    fun n => ?_, fun hard a above => ?_, fun soft a above other => ?_, ?_, fun asked => ?_, fun idle => ?_, fun empty room => ?_⟩
  iterate 16 · rw [ended]
  · exact (header (by omega) (by omega)).trans (headerWords_gap u low high)
  · exact (header (by omega) (by omega)).trans (headerWords_rest u low (by omega))
  · exact (word (0x0100 + 32 * n.val) (by omega)).trans (word_initStore_slot sound n)
  · exact (word a (by omega)).trans (word_initStore_hard sound hard above)
  · exact (word a (by omega)).trans (word_initStore_soft sound soft above other)
  · rw [ended]
  · rw [ended]
    exact ⟨if_pos asked, rfl⟩
  · rw [ended]
    exact if_neg (Bool.eq_false_iff.mp idle)
  · have queue : u.initialisationEnd.writer.queue = u.initialised.writer.queue := by rw [ended, made]
    obtain ⟨_, stored⟩ := initStore_frame u
    rw [queue, State.initialised, stored]
    exact acceptKept_queue empty room

end Sys2Proof.Machine
end

section
/-! SUPPORT. What the blocks change once the clock has stopped (R114, R143, R159): runs end, open takes close, and nothing starts. -/

namespace Sys2Proof.Machine

open State

/-- A property that its own step brings about, and that no step undoes, holds of every number once all steps are made. -/
theorem forEach_reaches {n : Nat} {f : Fin n → State → State} (inv : State → Prop) (Q : Fin n → State → Prop)
    (kept : ∀ i t, inv t → inv (f i t)) (reached : ∀ i t, inv t → Q i (f i t)) (still : ∀ i j t, inv t → Q j t → Q j (f i t))
    (s : State) (h : inv s) (i : Fin n) : Q i (forEach n f s) := by
  have go (l : List (Fin n)) (t : State) (ht : inv t) (there : i ∈ l ∨ Q i t) : Q i (l.foldl (fun s i => f i s) t) := by
    induction l generalizing t with
    | nil => exact there.resolve_left List.not_mem_nil
    | cons j rest ih =>
      refine ih (f j t) (kept j t ht) ?_
      rcases there with listed | done
      · rcases List.mem_cons.mp listed with rfl | later
        · exact .inr (reached i t ht)
        · exact .inl later
      · exact .inr (still j i t ht done)
  exact go (List.finRange n) s h (.inl (List.mem_finRange i))

/-! ## A group at the stop (R141, R143) -/

/-- A group of the stop: its open take may have gained CLOCK_UNLOCKED, SUSPECT and suspects, and may have closed; no other has
changed. -/
structure GroupStopping (left quiet : Prop) (stop : Position) (g x : Group) : Prop where
  counter : x.counter = g.counter
  tag : x.nextTag = g.nextTag
  shut : g.current = none → x.take = g.take
  taken : ∀ k, g.current = some k → ∃ (unlocked suspect : Bool) (devices : DeviceSet) (closed : Option (Position × Closer)),
    x.take = some { k with
      flags := { k.flags with clockUnlocked := unlocked, suspect := suspect }, suspects := devices, closed := closed } ∧
    (closed = none ∨ closed = some (stop, .clockStop)) ∧ (unlocked = k.flags.clockUnlocked ∨ (left ∧ unlocked = true)) ∧
    (quiet → suspect = k.flags.suspect ∧ devices = k.suspects)

section
variable {left quiet : Prop} {stop : Position} {g x : Group}

theorem groupStopping_self (left quiet : Prop) (stop : Position) (g : Group) : GroupStopping left quiet stop g g := by
  refine ⟨rfl, rfl, fun _ => rfl, fun k current => ?_⟩
  obtain ⟨take, unclosed⟩ := current_eq_some.mp current
  refine ⟨k.flags.clockUnlocked, k.flags.suspect, k.suspects, none, ?_, .inl rfl, .inl rfl, fun _ => ⟨rfl, rfl⟩⟩
  rw [take, ← unclosed]

/-- The open take of a group of the stop is the take that was open in it before. -/
theorem GroupStopping.opened (h : GroupStopping left quiet stop g x) {y : Take} (current : x.current = some y) :
    ∃ k, g.current = some k ∧ ∃ (unlocked suspect : Bool) (devices : DeviceSet),
      y = { k with
        flags := { k.flags with clockUnlocked := unlocked, suspect := suspect }, suspects := devices, closed := none } ∧
      (unlocked = k.flags.clockUnlocked ∨ (left ∧ unlocked = true)) ∧
      (quiet → suspect = k.flags.suspect ∧ devices = k.suspects) := by
  obtain ⟨take, unclosed⟩ := current_eq_some.mp current
  cases was : g.current with
  | none =>
    have still : g.current = some y := current_eq_some.mpr ⟨(h.shut was).symm.trans take, unclosed⟩
    cases was.symm.trans still
  | some k =>
    obtain ⟨unlocked, suspect, devices, closed, taken, _, unlocks, suspects⟩ := h.taken k was
    cases take.symm.trans taken
    cases unclosed
    exact ⟨k, rfl, unlocked, suspect, devices, rfl, unlocks, suspects⟩

/-- A group whose open take has become another of the kind the stop allows. -/
theorem GroupStopping.became (h : GroupStopping left quiet stop g x) {k : Take} (current : g.current = some k)
    {unlocked suspect : Bool} {devices : DeviceSet} {closed : Option (Position × Closer)}
    (closes : closed = none ∨ closed = some (stop, .clockStop)) (unlocks : unlocked = k.flags.clockUnlocked ∨ (left ∧ unlocked = true))
    (suspects : quiet → suspect = k.flags.suspect ∧ devices = k.suspects) :
    GroupStopping left quiet stop g { x with take := some { k with
      flags := { k.flags with clockUnlocked := unlocked, suspect := suspect }, suspects := devices, closed := closed } } := by
  refine ⟨h.counter, h.tag, fun none => ?_, fun l taken => ?_⟩
  · cases none.symm.trans current
  · cases taken.symm.trans current
    exact ⟨unlocked, suspect, devices, closed, rfl, closes, unlocks, suspects⟩

theorem mapOpen_shut {p : Take → Bool} {f : Take → Take} (shut : x.current = none) : Group.mapOpen p f x = x := by
  simp only [Group.mapOpen, shut]

theorem mapOpen_other {p : Take → Bool} {f : Take → Take} {y : Take} (current : x.current = some y) (other : ¬ p y = true) :
    Group.mapOpen p f x = x := by
  simp only [Group.mapOpen, current, if_neg other]

/-- R141: the notice that the clock has left LOCKED. -/
theorem GroupStopping.unlock (h : GroupStopping left quiet stop g x) (leaves : left) : GroupStopping left quiet stop g
    (Group.mapOpen (fun _ => true) (fun t => { t with flags := { t.flags with clockUnlocked := true } }) x) := by
  cases current : x.current with
  | none => rwa [mapOpen_shut current]
  | some y =>
    rw [mapOpen_open current rfl]
    obtain ⟨k, was, _, suspect, devices, rfl, _, suspects⟩ := h.opened current
    exact h.became was (.inl rfl) (.inr ⟨leaves, rfl⟩) suspects

/-- R139: the notice that a device has become suspect. -/
theorem GroupStopping.suspect (h : GroupStopping left quiet stop g x) (busy : ¬ quiet) (d : DeviceId) :
    GroupStopping left quiet stop g (Group.mapOpen (fun t => t.lists d)
      (fun t => { t with flags := { t.flags with suspect := true }, suspects := addTo t.suspects d }) x) := by
  cases current : x.current with
  | none => rwa [mapOpen_shut current]
  | some y =>
    by_cases listed : y.lists d = true
    · rw [mapOpen_open current listed]
      obtain ⟨k, was, unlocked, _, devices, rfl, unlocks, _⟩ := h.opened current
      exact h.became was (.inl rfl) unlocks fun idle => absurd idle busy
    · rwa [mapOpen_other current listed]

/-- R143: the group's open take closes at the stop. -/
theorem GroupStopping.close (h : GroupStopping left quiet stop g x) {y : Take} (current : x.current = some y) :
    GroupStopping left quiet stop g { x with take := some { y with closed := some (stop, .clockStop) } } := by
  obtain ⟨k, was, unlocked, suspect, devices, rfl, unlocks, suspects⟩ := h.opened current
  exact h.became was (.inr rfl) unlocks suspects

/-- What a group of the stop is once it holds no open take. -/
theorem GroupStopping.closed (h : GroupStopping left quiet stop g x) (shut : x.isOpen = false) {k : Take} (current : g.current = some k) :
    ∃ (unlocked suspect : Bool) (devices : DeviceSet), x.take = some { k with
        flags := { k.flags with clockUnlocked := unlocked, suspect := suspect }, suspects := devices
        closed := some (stop, .clockStop) } ∧
      (unlocked = k.flags.clockUnlocked ∨ (left ∧ unlocked = true)) ∧
      (quiet → suspect = k.flags.suspect ∧ devices = k.suspects) := by
  obtain ⟨unlocked, suspect, devices, closed, taken, unclosed | rfl, unlocks, suspects⟩ := h.taken k current
  · have isOpen := isOpen_of_current (current_eq_some.mpr ⟨taken, unclosed⟩)
    exact Bool.noConfusion (shut.symm.trans isOpen)
  · exact ⟨unlocked, suspect, devices, taken, unlocks, suspects⟩

end

/-! ## What the stop changes (R10, R114, R143, R159) -/

/-- From the state of the stopped clock: what its blocks' stop may have changed so far. -/
structure Stopping (p t : State) : Prop where
  frame : ∃ groups devices runs schedule writer store owed, t = { p with
    groups := groups, devices := devices, runs := runs, schedule := schedule, writer := writer, store := store, owed := owed }
  latch : t.writer.clock = p.writer.clock
  owed : ∃ unlocked, t.owed = { p.owed with unlocked := unlocked } ∧ (unlocked = true → p.owed.unlocked = true)
  runs : ∀ o : OutputId, p.runs[o] = none → t.runs[o] = none
  groups : ∀ g : GroupId, GroupStopping (p.owed.unlocked = true) (∀ o : OutputId, p.runs[o] = none) p.here p.groups[g] t.groups[g]
  words : p.storeSound → OnlyMirrorWritten p t

theorem stopping_self (p : State) : Stopping p p where
  frame := ⟨_, _, _, _, _, _, _, rfl⟩
  latch := rfl
  owed := ⟨_, rfl, id⟩
  runs _ h := h
  groups _ := groupStopping_self _ _ _ _
  words sound := ⟨sound, fun _ _ => rfl⟩

theorem autoCheck_stopped {t : State} (stopped : t.clock.state = .stopped) (o : OutputId) : autoCheck o t = t :=
  autoCheck_idle fun starts => starts.1 stopped

theorem autoCheckAll_stopped {t : State} (stopped : t.clock.state = .stopped) : t.autoCheckAll = t :=
  forEach_none (autoCheck_stopped stopped)

theorem endRun_none {t : State} {o : OutputId} {cause : RunCause} (run : t.runs[o] = none) : endRun o cause t = t := by
  simp only [endRun, run]

theorem closeTake_shut {t : State} {g : GroupId} {closer : Closer} (shut : t.groups[g].current = none) :
    t.closeTake g closer = t := by
  simp only [closeTake, shut]

theorem noticeTakes_group (t : State) (q : Take → Bool) (f : Take → Take) (g : GroupId) :
    (t.noticeTakes q f).groups[g] = Group.mapOpen q f t.groups[g] := Vector.getElem_map _ g.isLt

theorem setGroup_other {g e : GroupId} (apart : g ≠ e) (t : State) (x : Group) : (t.setGroup g x).groups[e] = t.groups[e] :=
  Vector.getElem_set_ne g.isLt e.isLt fun h => apart (Fin.ext h)

/-- R175: a completion handed sets no latch of the CLOCK reason. -/
theorem handCompletion_clockLatch (t : State) (c : Completion) : (t.handCompletion c).writer.clock = t.writer.clock := by
  cases ready : t.bus.ready with
  | true => rw [handCompletion_accepted ready]
  | false => rw [handCompletion_kept ready]

section
variable {p t : State} (h : Stopping p t)
include h

theorem Stopping.device (d : DeviceId) (x : Option Device) : Stopping p (t.setDevice d x) := by
  obtain ⟨⟨_, _, _, _, _, _, _, rfl⟩, latch, owed, runs, groups, words⟩ := h
  exact ⟨⟨_, _, _, _, _, _, _, rfl⟩, latch, owed, runs, groups, words⟩

theorem Stopping.schedule (l : List Entry) : Stopping p (t.setSchedule l) := by
  obtain ⟨⟨_, _, _, _, _, _, _, rfl⟩, latch, owed, runs, groups, words⟩ := h
  exact ⟨⟨_, _, _, _, _, _, _, rfl⟩, latch, owed, runs, groups, words⟩

theorem Stopping.noRun (o : OutputId) : Stopping p (t.setRun o none) := by
  obtain ⟨⟨_, _, _, _, _, _, _, rfl⟩, latch, owed, runs, groups, words⟩ := h
  refine ⟨⟨_, _, _, _, _, _, _, rfl⟩, latch, owed, fun j free => ?_, groups, words⟩
  by_cases own : o = j
  · subst own
    exact setRun_own _ o none
  · exact (Vector.getElem_set_ne o.isLt j.isLt fun h => own (Fin.ext h)).trans (runs j free)

theorem Stopping.report (r : Report) : Stopping p (t.handReport r) := by
  have latched := handReport_clockLatch t r
  have written := fun sound => onlyMirrorWritten_handReport r (h.words sound)
  rw [handReport_frame] at latched written ⊢
  obtain ⟨⟨_, _, _, _, _, _, _, rfl⟩, latch, owed, runs, groups, _⟩ := h
  exact ⟨⟨_, _, _, _, _, _, _, rfl⟩, latched.trans latch, owed, runs, groups, written⟩

theorem Stopping.completion (c : Completion) : Stopping p (t.handCompletion c) := by
  have latched := handCompletion_clockLatch t c
  rw [handCompletion_frame] at latched ⊢
  obtain ⟨⟨_, _, _, _, _, _, _, rfl⟩, latch, owed, runs, groups, words⟩ := h
  exact ⟨⟨_, _, _, _, _, _, _, rfl⟩, latched.trans latch, owed, runs, groups, words⟩

theorem Stopping.notice {q : Take → Bool} {f : Take → Take} (noticed : ∀ g : GroupId, GroupStopping (p.owed.unlocked = true)
    (∀ o : OutputId, p.runs[o] = none) p.here p.groups[g] (Group.mapOpen q f t.groups[g])) : Stopping p (t.noticeTakes q f) := by
  obtain ⟨⟨_, _, _, _, _, _, _, rfl⟩, latch, owed, runs, _, words⟩ := h
  refine ⟨⟨_, _, _, _, _, _, _, rfl⟩, latch, owed, runs, fun g => ?_, words⟩
  rw [noticeTakes_group]
  exact noticed g

theorem Stopping.suspect (busy : ¬ ∀ o : OutputId, p.runs[o] = none) (d : DeviceId) : Stopping p (t.suspectNotice d) :=
  h.notice fun g => (h.groups g).suspect busy d

theorem Stopping.given : Stopping p (t.setOwed { t.owed with unlocked := false }) := by
  obtain ⟨⟨_, _, _, _, _, _, _, rfl⟩, latch, ⟨_, same, _⟩, runs, groups, words⟩ := h
  refine ⟨⟨_, _, _, _, _, _, _, rfl⟩, latch, ⟨false, ?_, nofun⟩, runs, groups, words⟩
  exact congrArg (fun x : Owed => { x with unlocked := false }) same

theorem Stopping.unlocked : Stopping p t.giveUnlocked := by
  cases owes : t.owed.unlocked with
  | false => rwa [giveUnlocked_given owes]
  | true =>
    obtain ⟨unlocked, same, leaves⟩ := h.owed
    have left : p.owed.unlocked = true := leaves (by rw [← owes, same])
    rw [giveUnlocked_owed owes]
    exact (h.notice fun g => (h.groups g).unlock left).given

/-- R143: an open take closes at the stop. -/
theorem Stopping.closeGroup {g : GroupId} {k : Take} (current : t.groups[g].current = some k) :
    Stopping p (t.setGroup g { t.groups[g] with take := some { k with closed := some (t.here, .clockStop) } }) := by
  obtain ⟨⟨_, _, _, _, _, _, _, rfl⟩, latch, owed, runs, groups, words⟩ := h
  refine ⟨⟨_, _, _, _, _, _, _, rfl⟩, latch, owed, runs, fun e => ?_, words⟩
  by_cases own : g = e
  · subst own
    rw [setGroup_own]
    exact (groups g).close current
  · rw [setGroup_other own]
    exact groups e

theorem Stopping.staysShut {g : GroupId} (shut : p.groups[g].isOpen = false) : t.groups[g].isOpen = false := by
  have closed : p.groups[g].current = none := Option.isNone_iff_eq_none.mp (Option.isSome_eq_false_iff.mp shut)
  rw [Group.isOpen, Group.current, (h.groups g).shut closed]
  exact shut

theorem Stopping.stopped (stopped : p.clock.state = .stopped) : t.clock.state = .stopped := by
  obtain ⟨_, _, _, _, _, _, _, rfl⟩ := h.frame
  exact stopped

/-! ## Runs, takes and entries at the stop -/

theorem Stopping.failListener (busy : ¬ ∀ o : OutputId, p.runs[o] = none) (d : DeviceId) : Stopping p (failListener d t) := by
  cases enrolled : t.devices[d] with
  | none => rwa [failListener_none enrolled]
  | some x =>
    by_cases jams : x.state = .jamming
    · rw [failListener_jamming enrolled jams, moveDevice_suspect (.inl rfl)]
      exact ((h.device d _).report _).suspect busy d
    · rw [failListener_free enrolled jams]
      exact h.device d _

theorem Stopping.failWaiting (busy : ¬ ∀ o : OutputId, p.runs[o] = none) (waiting : DeviceSet) :
    Stopping p (failWaiting waiting t) := by
  refine Kept.forEach (P := Stopping p) 16 (fun d t h => ?_) h
  split
  · exact h.failListener busy d
  · exact h

theorem Stopping.handRun (r : Run) (failed : DeviceSet) : Stopping p (t.handRun r failed) := by
  rw [State.handRun]
  split
  · exact h.completion _
  · exact h

theorem Stopping.endRun (stopped : p.clock.state = .stopped) (o : OutputId) (cause : RunCause) : Stopping p (endRun o cause t) := by
  cases run : t.runs[o] with
  | none => rwa [endRun_none run]
  | some r =>
    have busy : ¬ ∀ o : OutputId, p.runs[o] = none := fun idle => by
      cases run.symm.trans (h.runs o (idle o))
    have ended : Stopping p ((t.runEnded o cause r).setRun o none) :=
      (((h.failWaiting busy r.waiting).report _).handRun r _).noRun o
    rwa [endRun_eq run, autoCheck_stopped (ended.stopped stopped)]

theorem Stopping.closeTake (stopped : p.clock.state = .stopped) (g : GroupId) : Stopping p (t.closeTake g .clockStop) := by
  cases current : t.groups[g].current with
  | none => rwa [closeTake_shut current]
  | some k =>
    have closed := (h.closeGroup current).report
      { position := t.here, urgent := false
        body := .takeClosed g k.number k.tag .clockStop k.flags k.suspects k.markTotal k.marks.length }
    rwa [closeTake_open _ current, autoCheckAll_stopped (closed.stopped stopped)]

theorem Stopping.stopEntry (e : Entry) : Stopping p (stopEntry e t) := by
  rw [State.stopEntry]
  split
  · exact (h.schedule _).completion _
  · exact (h.schedule _).report _

end

end Sys2Proof.Machine
end

section
/-! SUPPORT. CLOCK_STOP (R9, R10): the stopped clock, the stop in every block, and the order. -/

namespace Sys2Proof.Machine

open State

/-! ## What the stop brings about (R10, R114, R143, R159) -/

theorem endRun_ends {t : State} (stopped : t.clock.state = .stopped) (o : OutputId) (cause : RunCause) :
    (endRun o cause t).runs[o] = none := by
  cases run : t.runs[o] with
  | none => rwa [endRun_none run]
  | some r =>
    have idle : ((t.runEnded o cause r).setRun o none).clock.state = .stopped := by
      obtain ⟨_, _, _, _, moved⟩ := rosterMoved_runEnded t o cause r
      rw [moved]
      exact stopped
    rw [endRun_eq run, autoCheck_stopped idle]
    exact setRun_own _ o none

theorem endRun_schedule (o : OutputId) (cause : RunCause) (t : State) : (endRun o cause t).schedule = t.schedule := by
  have kept : StepKept fun s : State => s.schedule = t.schedule :=
    { device := fun _ _ _ h => h
      run := fun _ _ _ h => h
      notice := fun _ _ _ h => h
      report := fun s r h => by rw [handReport_frame]; exact h
      completion := fun s c h => by rw [handCompletion_frame]; exact h
      output := fun _ _ _ _ h => h }
  exact kept.endRun o cause rfl

theorem closeTake_shuts {t : State} (stopped : t.clock.state = .stopped) (g : GroupId) :
    (t.closeTake g .clockStop).groups[g].isOpen = false := by
  cases current : t.groups[g].current with
  | none =>
    rw [closeTake_shut current]
    exact not_isOpen_of_current current
  | some k =>
    have idle {r : Report} {x : Group} : ((t.setGroup g x).handReport r).clock.state = .stopped := by
      rw [handReport_frame]
      exact stopped
    rw [closeTake_open _ current, autoCheckAll_stopped idle, handReport_frame]
    exact congrArg Group.isOpen (setGroup_own t g _)

/-- R159: what remains of the Schedule once entries have been stopped names the slot of none of them. -/
theorem mem_stopEntries {l : List Entry} {t : State} {x : Entry} (left : x ∈ (l.foldl (fun s e => stopEntry e s) t).schedule) :
    x ∈ t.schedule ∧ ∀ e ∈ l, x.slot ≠ e.slot := by
  induction l generalizing t with
  | nil => exact ⟨left, nofun⟩
  | cons e rest ih =>
    obtain ⟨still, others⟩ := ih left
    have removed : (stopEntry e t).schedule = t.schedule.filter fun x => x.slot != e.slot := by
      rw [stopEntry]
      split
      · rw [completeEntry, handCompletion_frame]
        rfl
      · rw [loseEntry, State.report, handReport_frame]
        rfl
    rw [removed, List.mem_filter, bne_iff_ne] at still
    exact ⟨still.1, List.forall_mem_cons.mpr ⟨still.2, others⟩⟩

theorem stopSchedule_schedule (t : State) : t.stopSchedule.schedule = [] :=
  List.eq_nil_iff_forall_not_mem.mpr fun x left => by
    obtain ⟨held, others⟩ := mem_stopEntries left
    exact others x held rfl

theorem giveUnlocked_schedule (t : State) : t.giveUnlocked.schedule = t.schedule := by
  rw [giveUnlocked]
  split <;> rfl

theorem giveUnlocked_owes (t : State) : t.giveUnlocked.owed = { t.owed with unlocked := false } := by
  cases owes : t.owed.unlocked with
  | false => rw [giveUnlocked_given owes, ← owes]
  | true =>
    rw [giveUnlocked_owed owes]
    rfl

section
variable {p : State} (stopped : p.clock.state = .stopped)
include stopped

theorem stopping_stopTake {t : State} (h : Stopping p t) (n : Nat) (g : GroupId) :
    Stopping p (stopUnlockedBefore n g (stopRunsBefore n g t)) := by
  have runs : Stopping p (stopRunsBefore n g t) := by
    refine Kept.forEach (P := Stopping p) 4 (fun o t h => ?_) h
    split
    · exact h.endRun stopped o .stop
    · exact h
  rw [stopUnlockedBefore]
  split
  · exact runs.unlocked
  · exact runs

theorem stopping_stopTakes (n : Nat) : Stopping p (stopTakes n p) :=
  Kept.forEach (P := Stopping p) 8 (fun g _ h => (stopping_stopTake stopped h n g).closeTake stopped g) (stopping_self p)

theorem stopTakes_shut (n : Nat) (g : GroupId) : (stopTakes n p).groups[g].isOpen = false := by
  refine forEach_reaches (Stopping p) (fun g t => t.groups[g].isOpen = false)
    (fun g _ h => (stopping_stopTake stopped h n g).closeTake stopped g)
    (fun g _ h => closeTake_shuts ((stopping_stopTake stopped h n g).stopped stopped) g) (fun g j t h shut => ?_) p (stopping_self p) g
  have stays := h.stopped stopped
  exact ((stopping_stopTake stays (stopping_self t) n g).closeTake stays g).staysShut shut

theorem stopping_stopRuns {t : State} (h : Stopping p t) : Stopping p t.stopRuns :=
  Kept.forEach (P := Stopping p) 4 (fun o _ h => h.endRun stopped o .stop) h

theorem stopRuns_runs (o : OutputId) : p.stopRuns.runs[o] = none :=
  forEach_reaches (Stopping p) (fun o t => t.runs[o] = none) (fun o _ h => h.endRun stopped o .stop)
    (fun o _ h => endRun_ends (h.stopped stopped) o .stop)
    (fun o j t h free => ((stopping_self t).endRun (h.stopped stopped) o .stop).runs j free) p (stopping_self p) o

end

theorem stopping_stopSchedule {p t : State} (h : Stopping p t) : Stopping p t.stopSchedule :=
  Kept.foldl (P := Stopping p) (fun _ e h => h.stopEntry e) _ h

theorem stopRuns_schedule (p : State) : p.stopRuns.schedule = p.schedule :=
  Kept.forEach (P := fun t => t.schedule = p.schedule) 4 (fun o t h => (endRun_schedule o .stop t).trans h) rfl

/-- R10: the blocks once each has taken the stop notice, and the takes the notice that the clock has left LOCKED. -/
def State.blocksStopped (n : Nat) (p : State) : State := (stopTakes n p).stopSchedule.stopRuns.giveUnlocked

section
variable {p : State} (stopped : p.clock.state = .stopped) (n : Nat)
include stopped

theorem stopping_stopRunsDone : Stopping p (stopTakes n p).stopSchedule.stopRuns :=
  stopping_stopRuns stopped (stopping_stopSchedule (stopping_stopTakes stopped n))

theorem stopping_blocksStopped : Stopping p (p.blocksStopped n) := (stopping_stopRunsDone stopped n).unlocked

theorem blocksStopped_shut (g : GroupId) : (p.blocksStopped n).groups[g].isOpen = false := by
  have scheduled := stopping_stopSchedule (stopping_stopTakes stopped n)
  have entries := (stopping_stopSchedule (stopping_self (stopTakes n p))).staysShut (stopTakes_shut stopped n g)
  have runs := (stopping_stopRuns (scheduled.stopped stopped) (stopping_self _)).staysShut entries
  exact (stopping_self (stopTakes n p).stopSchedule.stopRuns).unlocked.staysShut runs

theorem blocksStopped_runs (o : OutputId) : (p.blocksStopped n).runs[o] = none := by
  have scheduled := stopping_stopSchedule (stopping_stopTakes stopped n)
  exact (stopping_self (stopTakes n p).stopSchedule.stopRuns).unlocked.runs o (stopRuns_runs (scheduled.stopped stopped) o)

omit stopped in
theorem blocksStopped_schedule : (p.blocksStopped n).schedule = [] := by
  rw [State.blocksStopped, giveUnlocked_schedule, stopRuns_schedule, stopSchedule_schedule]

theorem blocksStopped_owed : (p.blocksStopped n).owed = { p.owed with unlocked := false } := by
  obtain ⟨_, same, _⟩ := (stopping_stopRunsDone stopped n).owed
  rw [State.blocksStopped, giveUnlocked_owes, same]

end

/-! ## The stopped clock (R9, R22, R36, R42, R72) -/

/-- R9, R36, R42, R72: the clock stopped, with ports, lines and outputs. -/
def State.frozen (v : State) : State :=
  ((v.setClock { v.clock.halted with tick := v.here.tick }).changeClock .stopped .stop none).writeMirror.stopPins

theorem stopClock_eq (s : State) : s.stopClock =
    { s.closeClock.frozen.blocksStopped s.uses.stops with
      scanner := { (s.closeClock.frozen.blocksStopped s.uses.stops).scanner with idle := 0 }
      uses := { (s.closeClock.frozen.blocksStopped s.uses.stops).uses with stops := s.uses.stops + 1 } } := rfl

/-- R9, R22: the clock at the stop, its reason latched and a notice owed when it leaves LOCKED, before its report. -/
def State.clockHalted (v : State) : State :=
  { v with
    clock := { v.clock.halted with tick := v.here.tick, state := .stopped }, writer := { v.writer with clock := true } }

theorem changeClock_halted (v : State) :
    (v.setClock { v.clock.halted with tick := v.here.tick }).changeClock .stopped .stop none =
      (v.clockHalted.handReport { position := v.clockHalted.here, urgent := true
                                  body := .clockState v.clock.state .stopped .stop none }).setOwed
        { v.owed with unlocked := v.owed.unlocked || decide (v.clock.state = .locked) } := by
  rw [changeClock_eq]
  rfl

theorem frozen_frame (v : State) : ∃ writer store, v.frozen = { v with
      clock := { v.clock.halted with tick := v.here.tick, state := .stopped }, ports := v.ports.map Port.stop
      lines := v.lines.map Line.stop, outputs := v.outputs.map Output.stop
      owed := { v.owed with unlocked := v.owed.unlocked || decide (v.clock.state = .locked) }
      writer := writer, store := store } ∧ writer.clock = true ∧
    (v.storeSound → OnlyMirrorWritten v { v with store := store }) := by
  have words (sound : v.storeSound) : OnlyMirrorWritten v v.frozen := by
    have same : OnlyMirrorWritten v v.clockHalted := ⟨sound, fun _ _ => rfl⟩
    have halted := onlyMirrorWritten_handReport
      { position := v.clockHalted.here, urgent := true, body := .clockState v.clock.state .stopped .stop none } same
    have mirror : OnlyMirrorWritten v
        ((v.setClock { v.clock.halted with tick := v.here.tick }).changeClock .stopped .stop none).writeMirror := by
      rw [changeClock_halted]
      exact onlyMirrorWritten_writeMirror halted
    exact mirror
  rw [State.frozen, writeMirror_frame, changeClock_halted, handReport_frame] at words ⊢
  exact ⟨_, _, rfl, handReport_clockLatch v.clockHalted _, words⟩

end Sys2Proof.Machine
end

section
/-! SUPPORT. CLOCK_STOP (R9): the order, and all it leaves. -/

namespace Sys2Proof.Machine

open State

theorem ownClockStop_stopped {s : State} (stopped : s.clock.state = .stopped) : s.ownClockStop = refuse .noClock s := by
  simp only [ownClockStop, running_false stopped, Bool.false_eq_true, if_false]

theorem ownClockStop_running {s : State} (moving : s.clock.state ≠ .stopped) : s.ownClockStop = accept s.stopClock := by
  rw [ownClockStop, if_pos ((running_iff s).mpr moving)]

theorem exec_clockStop {w : Nat} {n : SlotId} {t : Timing} {s s' : State} {code : ResultCode} {reply record}
    (ready : (upTo w s).bus.ready = true) (atOnce : t.timing = 0)
    (answer : (orderTaken n t .clockStop (upTo w s)).ownClockStop = (s', .completes code reply record)) :
    exec (.clockStop w n t) s = .next (completeSlot n code reply record s') :=
  exec_orderRow_completes (o := .clockStop) rfl ready atOnce answer

theorem completeSlot_clockLatch (n : SlotId) (code reply record) (t : State) :
    (completeSlot n code reply record t).writer.clock = t.writer.clock := handCompletion_clockLatch _ _

/-- R170: the idle timer started from 0 by the k-th stop. -/
def State.idled (t : State) (k : Nat) : State :=
  { t with scanner := { t.scanner with idle := 0 }, uses := { t.uses with stops := k + 1 } }

/-- R9, R10: the part once CLOCK_STOP is carried out and has handed its completion, from the clock's part of the boundary on. -/
def State.clockStopDone (c : State) (n : SlotId) (k : Nat) : State :=
  completeSlot n .done Reply.zero none ((c.frozen.blocksStopped k).idled k)

/-- What CLOCK_STOP may change beside the clock and what runs on its pins. -/
structure StopLeaves (c : State) (groups : Vector Group 8) (runs : Vector (Option Run) 4) (schedule : List Entry)
    (scanner : Scanner) (writer : Writer) (q : State) : Prop where
  idle : scanner.idle = 0
  latch : writer.clock = true
  schedule : schedule = []
  runs : ∀ o : OutputId, runs[o] = none
  shut : ∀ g : GroupId, groups[g].isOpen = false
  groups : ∀ g : GroupId, GroupStopping (c.clock.state = .locked ∨ c.owed.unlocked = true) (∀ o : OutputId, c.runs[o] = none)
    { frame := c.clock.frame, tick := c.here.tick } c.groups[g] groups[g]
  words : c.storeSound → ∀ a, a < 4 ∨ 7 < a → q.word a = c.word a

theorem clockStopDone_frame (c : State) (n : SlotId) (k : Nat) : ∃ groups devices runs schedule scanner writer store uses,
    c.clockStopDone n k = { c with
      clock := { c.clock.halted with tick := c.here.tick, state := .stopped }, ports := c.ports.map Port.stop
      lines := c.lines.map Line.stop, outputs := c.outputs.map Output.stop, groups := groups, devices := devices
      runs := runs, schedule := schedule, scanner := scanner, writer := writer, store := store
      owed := { c.owed with unlocked := false }, uses := uses } ∧
    StopLeaves c groups runs schedule scanner writer (c.clockStopDone n k) := by
  obtain ⟨_, _, froze, latched, written⟩ := frozen_frame c
  have stopped : c.frozen.clock.state = .stopped := by rw [froze]
  have left : c.frozen.owed.unlocked = true ↔ c.clock.state = .locked ∨ c.owed.unlocked = true := by
    rw [froze]
    simp only [Bool.or_eq_true, decide_eq_true_eq, or_comm]
  have same : c.frozen.runs = c.runs ∧ c.frozen.groups = c.groups ∧
      c.frozen.here = { frame := c.clock.frame, tick := c.here.tick } ∧ c.frozen.writer.clock = true := by
    rw [froze]
    exact ⟨rfl, rfl, rfl, latched⟩
  obtain ⟨sameRuns, sameGroups, here, latch⟩ := same
  have owed := blocksStopped_owed stopped k
  have groups := (stopping_blocksStopped stopped k).groups
  have runs := blocksStopped_runs stopped k
  have shut := blocksStopped_shut stopped k
  have schedule := blocksStopped_schedule (p := c.frozen) k
  have still := (stopping_blocksStopped stopped k).latch
  have words := (stopping_blocksStopped stopped k).words
  obtain ⟨_, _, _, _, _, _, _, frame⟩ := (stopping_blocksStopped stopped k).frame
  rw [State.clockStopDone]
  generalize c.frozen.blocksStopped k = t at owed groups runs shut schedule still words frame ⊢
  have completed := completeSlot_frame n .done Reply.zero none (t.idled k)
  have kept := completeSlot_clockLatch n .done Reply.zero none (t.idled k)
  generalize completeSlot n .done Reply.zero none (t.idled k) = q at completed kept ⊢
  refine ⟨t.groups, t.devices, t.runs, t.schedule, { t.scanner with idle := 0 }, q.writer, t.store,
    { t.uses with stops := k + 1 }, ?_, rfl, kept.trans (still.trans latch), schedule, runs, shut, fun g => ?_,
    fun sound a outside => ?_⟩
  · rw [froze] at frame owed
    subst frame
    change _ = _ at owed
    subst owed
    exact completed
  · have group := groups g
    simp only [sameRuns, sameGroups, here, left] at group
    exact group
  · have sound' : c.frozen.storeSound := by
      rw [froze]
      exact (written sound).1
    have same : c.frozen.word a = c.word a := by
      rw [froze]
      exact (written sound).2 a outside
    rw [completed]
    exact ((words sound').2 a outside).trans same

theorem portPin_stopped {q : State} (stopped : q.clock.state = .stopped) (i : PortId) : q.portPin i = false := by
  rw [portPin, running_false stopped]
  split
  · exact Bool.false_and _
  · rfl

/-- Settles O23: CLOCK_STOP by the clock's state; the stop block by block, whatever the free values of entry 28. -/
theorem clockStopStopsEveryBlock : Obligations.ClockStopStopsEveryBlock := by
  intro w n t s v ready atOnce
  have completes {s' : State} {code : ResultCode} (answer : v.ownClockStop = (s', .completes code Reply.zero none)) :
      exec (.clockStop w n t) s = .next (completeSlot n code Reply.zero none s') := exec_clockStop ready atOnce answer
  clear_value v
  refine ⟨fun stopped => completes (ownClockStop_stopped stopped), fun moving => ?_⟩
  have row := completes (ownClockStop_running moving)
  rw [stopClock_eq] at row
  generalize v.uses.stops = k at row
  intro c left
  have closed : v.closeClock = c := rfl
  rw [closed] at row
  clear_value c
  have row : exec (.clockStop w n t) s = .next (c.clockStopDone n k) := row
  obtain ⟨_, _, _, _, _, _, _, _, done, leaves⟩ := clockStopDone_frame c n k
  obtain ⟨idle, latch, schedule, runs, shut, groups, words⟩ := leaves
  have stopped : (c.clockStopDone n k).clock.state = .stopped := by rw [done]
  generalize c.clockStopDone n k = q at row done words stopped
  refine ⟨q, row, ?_⟩
  subst done
  refine ⟨rfl, rfl, rfl, rfl, rfl, rfl, rfl, rfl, rfl, rfl, rfl, rfl, rfl, rfl, rfl, rfl, rfl, rfl, latch, idle, fun i => ?_,
    fun i => ?_, fun o => ?_, fun g => ?_, schedule, runs, rfl, rfl, rfl, rfl, rfl, rfl, rfl, words⟩
  · have port : (c.ports.map Port.stop)[i] = c.ports[i].stop := Vector.getElem_map _ i.isLt
    refine ⟨portPin_stopped stopped i, ?_⟩
    simp only [port]
    exact ⟨rfl, rfl, rfl, rfl, rfl⟩
  · exact ⟨tallyPin_stopped stopped i, Vector.getElem_map _ i.isLt⟩
  · have output : (c.outputs.map Output.stop)[o] = c.outputs[o].stop := Vector.getElem_map _ o.isLt
    simp only [outputPin, output]
    exact ⟨rfl, rfl, rfl, rfl, rfl, rfl⟩
  · have group := groups g
    exact ⟨shut g, group.counter, group.tag, fun k current => group.closed (shut g) current, group.shut⟩

end Sys2Proof.Machine
end

section
/-! SUPPORT. The clock's part of a frame boundary (R8, R12, R13, R18, R19): the clock it leaves, and what else it changes. -/

namespace Sys2Proof.Machine

open State

/-! ## The clock the boundary leaves -/

/-- R8: the clock once a pending tune has applied. -/
def Clock.afterTune (c : Clock) : Clock :=
  match c.pendingTune with
  | none => c
  | some x =>
    if !x.refUse then
      if c.state = .freeRun ∨ c.state = .stopped then c.tuned x else { (c.tuned x).unreferenced with state := .freeRun }
    else if (c.tuned x).expired then { c.tuned x with holdoverValue := none, state := .freeRun }
    else c.tuned x

/-- R12: the clock's part of the boundary, with the settling put off when a transition of R18 or R19 comes first. -/
def Clock.boundary (c : Clock) : Clock :=
  if c.afterTune.judge.missing || c.afterTune.judge.expired then { c.afterTune.judge with settleOwed := true }
  else c.afterTune.judge.settle

theorem changeClock_clock (s : State) (new : ClockState) (cause : ClockCause) (v : Option Int) :
    (s.changeClock new cause v).clock = { s.clock with state := new } := by
  rw [changeClock_eq, handReport_frame]
  rfl

section
variable {s : State} {x : Tune}

theorem applyTune_none (none : s.clock.pendingTune = none) : s.applyTune = s := by
  simp only [applyTune, none]

theorem applyTune_idle (tune : s.clock.pendingTune = some x) (off : x.refUse = false)
    (free : s.clock.state = .freeRun ∨ s.clock.state = .stopped) : s.applyTune = s.setClock (s.clock.tuned x) := by
  simp only [applyTune, tune, off, Bool.not_false, if_true]
  exact if_pos free

theorem applyTune_drops (tune : s.clock.pendingTune = some x) (off : x.refUse = false)
    (follows : ¬ (s.clock.state = .freeRun ∨ s.clock.state = .stopped)) :
    s.applyTune = (s.setClock (s.clock.tuned x).unreferenced).changeClock .freeRun .tune none := by
  simp only [applyTune, tune, off, Bool.not_false, if_true]
  exact if_neg follows

theorem applyTune_expires (tune : s.clock.pendingTune = some x) (on : x.refUse = true)
    (spent : (s.clock.tuned x).expired = true) :
    s.applyTune = (s.setClock { s.clock.tuned x with holdoverValue := none }).changeClock .freeRun .expiry none := by
  simp only [applyTune, tune, on, Bool.not_true, Bool.false_eq_true, if_false]
  exact if_pos spent

theorem applyTune_stays (tune : s.clock.pendingTune = some x) (on : x.refUse = true)
    (lasts : ¬ (s.clock.tuned x).expired = true) : s.applyTune = s.setClock (s.clock.tuned x) := by
  simp only [applyTune, tune, on, Bool.not_true, Bool.false_eq_true, if_false]
  exact if_neg lasts

end

/-- R8: a pending tune changes nothing, the clock alone, or the clock and its state. -/
theorem applyTune_cases (s : State) : (s.applyTune = s ∧ s.clock.afterTune = s.clock) ∨
    (∃ c, s.applyTune = s.setClock c ∧ s.clock.afterTune = c) ∨
    ∃ c cause, s.applyTune = (s.setClock c).changeClock .freeRun cause none ∧ s.clock.afterTune = { c with state := .freeRun } := by
  cases tune : s.clock.pendingTune with
  | none => exact .inl ⟨applyTune_none tune, by simp only [Clock.afterTune, tune]⟩
  | some x =>
    refine .inr ?_
    cases use : x.refUse with
    | false =>
      by_cases free : s.clock.state = .freeRun ∨ s.clock.state = .stopped
      · exact .inl ⟨_, applyTune_idle tune use free, by simp only [Clock.afterTune, tune, use, Bool.not_false, if_true, if_pos free]⟩
      · exact .inr ⟨_, _, applyTune_drops tune use free, by
          simp only [Clock.afterTune, tune, use, Bool.not_false, if_true, if_neg free]⟩
    | true =>
      by_cases spent : (s.clock.tuned x).expired = true
      · exact .inr ⟨_, _, applyTune_expires tune use spent, by
          simp only [Clock.afterTune, tune, use, Bool.not_true, Bool.false_eq_true, if_false, if_pos spent]⟩
      · exact .inl ⟨_, applyTune_stays tune use spent, by
          simp only [Clock.afterTune, tune, use, Bool.not_true, Bool.false_eq_true, if_false, if_neg spent]⟩

theorem applyTune_clock (s : State) : s.applyTune.clock = s.clock.afterTune := by
  rcases applyTune_cases s with ⟨same, clock⟩ | ⟨c, tuned, clock⟩ | ⟨c, cause, moved, clock⟩
  · rw [same, clock]
  · rw [tuned, clock]
    rfl
  · rw [moved, clock, changeClock_clock]
    rfl

theorem clockBoundary_clock (s : State) : s.clockBoundary.clock = s.clock.boundary := by
  simp only [clockBoundary, Clock.boundary, setClock_clock, applyTune_clock]
  split
  · rfl
  · exact settleClock_clock _

/-- What settling a boundary, or putting it off, keeps of the clock. -/
theorem boundary_kept (c : Clock) : c.boundary = { c.afterTune.judge with
    correction := c.boundary.correction, ordered := c.boundary.ordered, settleOwed := c.boundary.settleOwed
    history := c.boundary.history } := by
  rw [Clock.boundary]
  split <;> rfl

/-- R8: what a tune's applying keeps of the clock. -/
theorem afterTune_kept (c : Clock) : c.afterTune.frame = c.frame ∧ c.afterTune.tick = c.tick ∧ c.afterTune.phase = c.phase ∧
    c.afterTune.rate = c.rate ∧ c.afterTune.startCount = c.startCount := by
  cases tune : c.pendingTune with
  | none => simp only [Clock.afterTune, tune, and_self]
  | some x =>
    simp only [Clock.afterTune, tune]
    split_ifs <;> exact ⟨rfl, rfl, rfl, rfl, rfl⟩

theorem afterTune_none {c : Clock} (none : c.pendingTune = none) : c.afterTune = c := by
  simp only [Clock.afterTune, none]

theorem afterTune_some {c : Clock} {x : Tune} (tune : c.pendingTune = some x) : c.afterTune.slew = x.slew ∧
    c.afterTune.window = x.window ∧ c.afterTune.holdoverLimit = x.holdover ∧ c.afterTune.crashPermit = x.crash ∧
    c.afterTune.refUse = x.refUse ∧ c.afterTune.pendingTune = none := by
  simp only [Clock.afterTune, tune]
  split_ifs <;> exact ⟨rfl, rfl, rfl, rfl, rfl, rfl⟩

theorem afterTune_unreferenced {c : Clock} {x : Tune} (tune : c.pendingTune = some x) (off : x.refUse = false)
    (moving : c.state ≠ .stopped) : c.afterTune.state = .freeRun := by
  simp only [Clock.afterTune, tune, off, Bool.not_false, if_true]
  split
  · next h => exact h.resolve_right moving
  · rfl

/-- R12 step 3: a boundary that owes no transition is settled. -/
theorem boundary_settled {c : Clock} (stays : c.afterTune.judge.missing = false) (lasts : c.afterTune.judge.expired = false) :
    c.boundary = c.afterTune.judge.settle := by
  rw [Clock.boundary, stays, lasts]
  rfl

theorem not_missing {c : Clock} (h : ¬ ((c.state = .locked ∨ c.state = .locking) ∧ 4 ≤ c.missingRun)) : c.missing = false := by
  rw [Clock.missing, Bool.and_assoc, ← Bool.decide_and, decide_eq_false h, Bool.and_false]

theorem not_expired {c : Clock} (h : c.state ≠ .holdover) : c.expired = false := by
  rw [Clock.expired, decide_eq_false h, Bool.false_and]

theorem boundary_free {c : Clock} (free : c.afterTune.state = .freeRun) :
    c.boundary.state = .freeRun ∧ c.boundary.correction = 0 := by
  have state : c.afterTune.judge.state = .freeRun := free
  have settled : c.boundary = c.afterTune.judge.settle :=
    boundary_settled (not_missing fun h => by rw [state] at h; exact absurd h.1 (by decide))
      (not_expired fun h => by cases state.symm.trans h)
  rw [settled]
  exact ⟨free, nextCorrection_free state⟩

/-- R12, R13: a boundary in LOCKED or LOCKING that owes no transition. -/
theorem boundary_following {c : Clock} (still : c.pendingTune = none) (follows : c.state = .locked ∨ c.state = .locking)
    (few : c.judge.missingRun < 4) : c.boundary.settleOwed = false ∧ c.boundary.ordered = none ∧
      c.boundary.correction = saturate c.slew ((c.ordered.map fun e => e.error).getD 0) ∧
      c.boundary.history = (if (c.ordered.map fun e => e.takenIn) = some .locked then
        pushHistory c.history c.boundary.correction else c.history) := by
  have untuned := afterTune_none still
  have settled : c.boundary = c.judge.settle := by
    have settled := boundary_settled (c := c) (not_missing fun h => by rw [untuned] at h; omega)
      (not_expired fun h => by
        rw [untuned] at h
        rcases follows with state | state <;> cases state.symm.trans h)
    rwa [untuned] at settled
  have recorded : c.judge.recorded = true ↔ (c.ordered.map fun e => e.takenIn) = some .locked := by
    have inLock : c.judge.state = .locking ∨ c.judge.state = .locked := follows.symm
    rw [Clock.recorded, decide_eq_true inLock, Bool.true_and]
    change (c.ordered.any fun e => e.takenIn == .locked) = true ↔ _
    cases c.ordered <;> simp
  have correction : c.judge.nextCorrection = saturate c.slew ((c.ordered.map fun e => e.error).getD 0) :=
    nextCorrection_ordered (c := c.judge) follows.symm
  rw [settled]
  refine ⟨rfl, rfl, correction, ?_⟩
  exact ite_congr (propext recorded) (fun _ => rfl) fun _ => rfl

/-! ## What the clock's part of the boundary changes (R12, R22, R23) -/

/-- The clock, the writer and the store have changed, and whether the takes are owed a notice. -/
def ClockMoved (s t : State) : Prop := ∃ clock writer store unlocked, t = { s with
  clock := clock, writer := writer, store := store, owed := { s.owed with unlocked := unlocked } }

theorem clockMoved_setClock {s t : State} (c : Clock) (h : ClockMoved s t) : ClockMoved s (t.setClock c) := by
  obtain ⟨_, _, _, _, rfl⟩ := h
  exact ⟨_, _, _, _, rfl⟩

theorem clockMoved_changeClock {s t : State} (new : ClockState) (cause : ClockCause) (v : Option Int) (h : ClockMoved s t) :
    ClockMoved s (t.changeClock new cause v) := by
  obtain ⟨_, _, _, _, rfl⟩ := h
  rw [changeClock_eq, handReport_frame]
  exact ⟨_, _, _, _, rfl⟩

theorem clockMoved_settleClock {s t : State} (h : ClockMoved s t) : ClockMoved s t.settleClock := by
  rw [settleClock, writeMirror_frame]
  obtain ⟨_, _, _, _, rfl⟩ := h
  exact ⟨_, _, _, _, rfl⟩

theorem clockMoved_applyTune (s : State) : ClockMoved s s.applyTune := by
  have same : ClockMoved s s := ⟨_, _, _, _, rfl⟩
  rcases applyTune_cases s with ⟨untuned, _⟩ | ⟨c, tuned, _⟩ | ⟨c, cause, moved, _⟩
  · rwa [untuned]
  · rw [tuned]
    exact clockMoved_setClock c same
  · rw [moved]
    exact clockMoved_changeClock _ _ _ (clockMoved_setClock c same)

theorem clockMoved_clockBoundary (s : State) : ClockMoved s s.clockBoundary := by
  have judged : ClockMoved s (s.applyTune.setClock s.applyTune.clock.judge) :=
    clockMoved_setClock _ (clockMoved_applyTune s)
  rw [clockBoundary]
  dsimp only
  split
  · exact clockMoved_setClock _ judged
  · exact clockMoved_settleClock judged

theorem onlyMirrorWritten_setClock {s t : State} (c : Clock) (h : OnlyMirrorWritten s t) : OnlyMirrorWritten s (t.setClock c) := h

theorem onlyMirrorWritten_changeClock {s t : State} (new : ClockState) (cause : ClockCause) (v : Option Int)
    (h : OnlyMirrorWritten s t) : OnlyMirrorWritten s (t.changeClock new cause v) := by
  rw [changeClock_eq]
  exact onlyMirrorWritten_handReport (s := s)
    (t := { t with clock := { t.clock with state := new }, writer := { t.writer with clock := true } }) _ h

theorem onlyMirrorWritten_applyTune {s t : State} (h : OnlyMirrorWritten s t) : OnlyMirrorWritten s t.applyTune := by
  rcases applyTune_cases t with ⟨untuned, _⟩ | ⟨c, tuned, _⟩ | ⟨c, cause, moved, _⟩
  · rwa [untuned]
  · rw [tuned]
    exact onlyMirrorWritten_setClock c h
  · rw [moved]
    exact onlyMirrorWritten_changeClock _ _ _ (onlyMirrorWritten_setClock c h)

theorem onlyMirrorWritten_clockBoundary {s t : State} (h : OnlyMirrorWritten s t) : OnlyMirrorWritten s t.clockBoundary := by
  have judged := onlyMirrorWritten_setClock t.applyTune.clock.judge (onlyMirrorWritten_applyTune h)
  rw [clockBoundary]
  dsimp only
  split
  · exact judged
  · exact onlyMirrorWritten_writeMirror (onlyMirrorWritten_setClock _ judged)

theorem clockBoundary_owed (s : State) : s.clockBoundary.owed = s.applyTune.owed := by
  rw [clockBoundary]
  dsimp only
  split
  · rfl
  · exact settleClock_owed _

/-- R8, R22: a tune that takes the clock out of LOCKED owes the takes the notice. -/
theorem clockBoundary_owes {s : State} {x : Tune} (tune : s.clock.pendingTune = some x) (off : x.refUse = false)
    (locked : s.clock.state = .locked) : s.clockBoundary.owed.unlocked = true := by
  have follows : ¬ (s.clock.state = .freeRun ∨ s.clock.state = .stopped) := by
    rw [locked]
    decide
  have state : (s.setClock (s.clock.tuned x).unreferenced).clock.state = .locked := locked
  rw [clockBoundary_owed, applyTune_drops tune off follows, changeClock_eq, state]
  exact Bool.or_true _

end Sys2Proof.Machine
end

section
/-! SUPPORT. What a frame boundary owes (R96, R117, R141), done: the notice to the takes, the roster's count, the automatic check. -/

namespace Sys2Proof.Machine

open State

/-! ## The automatic check of every output (R117) -/

/-- Of the outputs the requests alone have changed, and the runs. -/
def ChecksMoved (s t : State) : Prop := ∃ outputs runs, t = { s with outputs := outputs, runs := runs } ∧
  ∀ o : OutputId, outputs[o] = { s.outputs[o] with request := outputs[o].request }

theorem checksMoved_self (s : State) : ChecksMoved s s := ⟨_, _, rfl, fun _ => rfl⟩

theorem checksMoved_autoCheck {s t : State} (o : OutputId) (h : ChecksMoved s t) : ChecksMoved s (autoCheck o t) := by
  by_cases starts : t.AutoStarts o
  · rw [autoCheck_starts starts]
    obtain ⟨outputs, _, rfl, requests⟩ := h
    refine ⟨_, _, rfl, fun j => ?_⟩
    by_cases own : o = j
    · subst own
      have set : (outputs.set o { outputs[o] with request := some s.clock.frame })[o] =
          { outputs[o] with request := some s.clock.frame } := Vector.getElem_set_self o.isLt
      have request := requests o
      rw [set]
      rw [request]
    · have other (x : Output) : (outputs.set o x)[j] = outputs[j] :=
        Vector.getElem_set_ne o.isLt j.isLt fun h => own (Fin.ext h)
      rw [other]
      exact requests j
  · rwa [autoCheck_idle starts]

theorem checksMoved_autoCheckAll (s : State) : ChecksMoved s s.autoCheckAll :=
  Kept.forEach (P := ChecksMoved s) 4 (fun o _ h => checksMoved_autoCheck o h) (checksMoved_self s)

theorem autoCheck_other {o j : OutputId} (apart : o ≠ j) (t : State) :
    ((autoCheck o t).outputs[j], (autoCheck o t).runs[j]) = (t.outputs[j], t.runs[j]) := by
  by_cases starts : t.AutoStarts o
  · rw [autoCheck_starts starts]
    have out (x : Output) : (t.outputs.set o x)[j] = t.outputs[j] :=
      Vector.getElem_set_ne o.isLt j.isLt fun h => apart (Fin.ext h)
    have run (x : Option Run) : (t.runs.set o x)[j] = t.runs[j] :=
      Vector.getElem_set_ne o.isLt j.isLt fun h => apart (Fin.ext h)
    simp only [out, run]
  · rw [autoCheck_idle starts]

/-- An output and its run once an automatic check has started one there. -/
theorem autoCheck_started {s : State} {o : OutputId} (starts : s.AutoStarts o) :
    ((autoCheck o s).outputs[o], (autoCheck o s).runs[o]) =
      ({ s.outputs[o] with request := some s.clock.frame }, some (s.freshRun o .auto)) := by
  rw [autoCheck_starts starts]
  exact Prod.ext (Vector.getElem_set_self o.isLt) (Vector.getElem_set_self o.isLt)

/-- A check of an output finds what the checks of others have left of it. -/
theorem autoCheck_congr {s t : State} {o : OutputId} (moved : ChecksMoved s t)
    (same : (t.outputs[o], t.runs[o]) = (s.outputs[o], s.runs[o])) :
    ((autoCheck o t).outputs[o], (autoCheck o t).runs[o]) = ((autoCheck o s).outputs[o], (autoCheck o s).runs[o]) := by
  obtain ⟨output, run⟩ := Prod.mk.inj same
  have starts : t.AutoStarts o ↔ s.AutoStarts o := by
    rw [State.AutoStarts, State.AutoStarts, output, run]
    obtain ⟨_, _, rfl, _⟩ := moved
    exact Iff.rfl
  by_cases started : s.AutoStarts o
  · have fresh : t.freshRun o .auto = s.freshRun o .auto ∧ t.clock = s.clock := by
      obtain ⟨_, _, rfl, _⟩ := moved
      exact ⟨rfl, rfl⟩
    rw [autoCheck_started started, autoCheck_started (starts.mpr started), output, fresh.1, fresh.2]
  · rw [autoCheck_idle started, autoCheck_idle (mt starts.mp started), same]

/-- R117: the check of every output does to each what the check of it alone does. -/
theorem autoCheckAll_items (s : State) (o : OutputId) :
    (s.autoCheckAll.outputs[o], s.autoCheckAll.runs[o]) = ((autoCheck o s).outputs[o], (autoCheck o s).runs[o]) :=
  forEach_items (f := autoCheck) (item := fun o (t : State) => (t.outputs[o], t.runs[o])) (ChecksMoved s)
    (fun o _ h => checksMoved_autoCheck o h) (fun _ _ t apart _ => autoCheck_other apart t) s (checksMoved_self s)
    (fun _ _ moved same => autoCheck_congr moved same) o

theorem autoCheckAll_starts {s : State} {o : OutputId} (starts : s.AutoStarts o) :
    s.autoCheckAll.outputs[o].request = some s.clock.frame ∧ s.autoCheckAll.runs[o] = some (s.freshRun o .auto) := by
  obtain ⟨output, run⟩ := Prod.mk.inj ((autoCheckAll_items s o).trans (autoCheck_started starts))
  rw [output]
  exact ⟨rfl, run⟩

theorem checksMoved_boundaryCheck (s : State) : ChecksMoved s s.boundaryCheck := by
  rw [boundaryCheck]
  split
  · exact checksMoved_autoCheckAll s
  · exact checksMoved_self s

/-- R116, R117: a check that would start a run finds a device with jam-wanted set, and so is made. -/
theorem boundaryCheck_starts {s : State} {o : OutputId} (starts : s.AutoStarts o) :
    s.boundaryCheck.outputs[o].request = some s.clock.frame ∧ s.boundaryCheck.runs[o] = some (s.freshRun o .auto) := by
  have wanted : ((List.finRange 16).any fun d => s.devices[d].any fun x => x.jamWanted) = true := by
    obtain ⟨_, _, _, ⟨d, y, enrolled, _, wanted⟩, _⟩ := starts
    refine (any_device_iff _).mpr ⟨d, ?_⟩
    rw [enrolled]
    exact wanted
  rw [boundaryCheck, if_pos wanted]
  exact autoCheckAll_starts starts

/-! ## What the boundary owes, done -/

/-- R96, R141: the notice given and the roster counted. -/
def State.noticed (s : State) : State := s.giveUnlocked.counted

theorem finishOwed_eq (s : State) : s.finishOwed = s.noticed.checkOwed := rfl

theorem noticed_eq (s : State) : s.noticed = { s with
    groups := if s.owed.unlocked then s.unlockedNotice.groups else s.groups
    devices := if s.owed.count then s.devices.map fun y => y.map Device.countSilence else s.devices
    owed := { s.owed with unlocked := false, count := false } } := by
  obtain ⟨clock, ports, lines, outputs, userBits, inputs, devices, runs, marks, groups, schedule, scanner, writer, store, bus, pins,
    hold, ⟨unlocked, count, check⟩, uses, pending⟩ := s
  cases unlocked <;> cases count <;> rfl

/-- What is done of what the boundary owed. -/
theorem finishOwed_moved (s : State) : ChecksMoved { s.noticed with owed := { unlocked := false, count := false, check := false } }
    s.finishOwed := by
  have owed : s.noticed.owed = { unlocked := false, count := false, check := s.owed.check } := by rw [noticed_eq]
  rw [finishOwed_eq]
  cases check : s.owed.check with
  | false =>
    rw [check] at owed
    have made : s.noticed.checkOwed = s.noticed := checkOwed_made (by rw [owed])
    rw [made, ← owed]
    exact checksMoved_self _
  | true =>
    rw [check] at owed
    have made : s.noticed.checkOwed = (s.noticed.setOwed { s.noticed.owed with check := false }).boundaryCheck :=
      if_pos (by rw [owed])
    rw [made, owed]
    exact checksMoved_boundaryCheck _

theorem finishOwed_starts {s : State} {o : OutputId} (owes : s.owed.check = true) (starts : s.noticed.AutoStarts o) :
    s.finishOwed.outputs[o].request = some s.clock.frame ∧ s.finishOwed.runs[o] = some (s.noticed.freshRun o .auto) := by
  have owed : s.noticed.owed.check = true := by rw [noticed_eq]; exact owes
  have clock : s.noticed.clock = s.clock := by rw [noticed_eq]
  have made : s.finishOwed = (s.noticed.setOwed { s.noticed.owed with check := false }).boundaryCheck := if_pos owed
  rw [made, ← clock]
  exact boundaryCheck_starts (s := s.noticed.setOwed { s.noticed.owed with check := false }) starts

theorem finishOwed_unchecked {s : State} (made : s.owed.check = false) : s.finishOwed = s.noticed := by
  have still : s.noticed.owed.check = false := by rw [noticed_eq]; exact made
  exact checkOwed_made still

end Sys2Proof.Machine
end

section
/-! SUPPORT. FRAME_BOUNDARY (R2, R12): the frame boundary in every block, and the instants at which none passes. -/

namespace Sys2Proof.Machine

open State

/-! ## Whether a boundary passes (R1, R2) -/

theorem frameBoundary_passes {s v : State} (tick : s.finishTick = v) (running : v.clock.state ≠ .stopped)
    (last : rateTicks v.clock.rate ≤ v.clock.tick + 1) (goes : v.holdsTick = false) :
    frameBoundary s = v.countTick.passBoundary.finishOwed := by
  have passes : (v.running && v.lastTick && !v.holdsTick) = true := by
    rw [(running_iff v).mpr running, goes, lastTick, decide_eq_true (show v.ticks ≤ v.clock.tick + 1 from last)]
    rfl
  have begun : v.beginTick = v.countTick.passBoundary := by
    rw [beginTick_running running, if_neg (Bool.eq_false_iff.mp goes), if_pos]
    exact decide_eq_true last
  rw [frameBoundary, tick, if_pos passes, begun]

theorem frameBoundary_stays {s v : State} (tick : s.finishTick = v)
    (stays : v.clock.state = .stopped ∨ v.clock.tick + 1 < rateTicks v.clock.rate ∨ v.holdsTick = true) :
    frameBoundary s = s.finishOwed := by
  have idle : ¬ (v.running && v.lastTick && !v.holdsTick) = true := by
    rw [Bool.and_eq_true, Bool.and_eq_true, running_iff, Bool.not_eq_true', lastTick, decide_eq_true_eq]
    rintro ⟨⟨running, last⟩, goes⟩
    rcases stays with stopped | inside | holds
    · exact running stopped
    · exact absurd last (Nat.not_le.mpr inside)
    · cases goes.symm.trans holds
  rw [frameBoundary, tick, if_neg idle]

/-! ## The boundary in every block (R12, R27, R41, R59, R170) -/

/-- R2, R12: the clock's part of the boundary made. -/
def State.clockPassed (s : State) : State := (s.countPulses.setClock s.clock.advance).clockBoundary

/-- R12, R27, R41, R59: the clock, the lines, the ports and the outputs once the boundary has passed. -/
def State.blocksPassed (s : State) : State := s.clockPassed.boundaryLines.countPorts.countOutputs

theorem passBoundary_eq (s : State) : s.passBoundary = s.blocksPassed.boundaryRest := rfl

/-- R170: the boundary's scan request. -/
theorem boundaryRest_point (t : State) : t.boundaryRest.scanner.point =
    if t.bus.ready = true ∧ t.scanner.point = none then some 0 else t.scanner.point := by
  rw [boundaryRest, scanRequest]
  split
  · next h => exact (if_pos h).symm
  · next h => exact (if_neg h).symm

theorem boundary_rate (c : Clock) : c.boundary.rate = c.rate := by
  obtain ⟨_, _, _, rate, _⟩ := afterTune_kept c
  rw [boundary_kept]
  exact rate

section
variable (s : State)

theorem clockPassed_frame : ∃ writer store unlocked, s.clockPassed = { s with
    clock := s.clock.advance.boundary, ports := s.ports.map Port.countPulse, writer := writer, store := store
    owed := { s.owed with unlocked := unlocked } } := by
  have clock : s.clockPassed.clock = s.clock.advance.boundary := clockBoundary_clock _
  obtain ⟨moved, writer, store, unlocked, frame⟩ := clockMoved_clockBoundary (s.countPulses.setClock s.clock.advance)
  have same : s.clockPassed = { s.countPulses.setClock s.clock.advance with
    clock := moved, writer := writer, store := store
    owed := { (s.countPulses.setClock s.clock.advance).owed with unlocked := unlocked } } := frame
  rw [same] at clock ⊢
  change moved = _ at clock
  rw [clock]
  exact ⟨_, _, _, rfl⟩

theorem blocksPassed_frame : ∃ writer store, s.blocksPassed = { s with
      clock := s.clock.advance.boundary, ports := (s.ports.map Port.countPulse).map Port.countFrame
      lines := s.lines.map (Line.boundary s.groupOpen), outputs := s.outputs.map (Output.countFrame (rateSpan s.clock.rate))
      writer := writer, store := store, owed := { s.owed with unlocked := s.clockPassed.owed.unlocked } } ∧
    (s.storeSound → OnlyMirrorWritten s { s with store := store }) := by
  have words (sound : s.storeSound) : OnlyMirrorWritten s s.clockPassed :=
    onlyMirrorWritten_clockBoundary (t := s.countPulses.setClock s.clock.advance) ⟨sound, fun _ _ => rfl⟩
  obtain ⟨writer, store, unlocked, passed⟩ := clockPassed_frame s
  have rate : s.clock.advance.boundary.rate = s.clock.rate := boundary_rate _
  rw [State.blocksPassed, ← rate]
  rw [passed] at words ⊢
  exact ⟨writer, store, rfl, words⟩

/-- R12: the part once the frame boundary has passed, before what it still owes. -/
theorem passBoundary_frame : ∃ scanner writer store, s.passBoundary = { s with
      clock := s.clock.advance.boundary, ports := (s.ports.map Port.countPulse).map Port.countFrame
      lines := s.lines.map (Line.boundary s.groupOpen), outputs := s.outputs.map (Output.countFrame (rateSpan s.clock.rate))
      scanner := scanner, writer := writer, store := store
      owed := { unlocked := s.clockPassed.owed.unlocked, count := true, check := true } } ∧
    scanner.point = (if s.bus.ready = true ∧ s.scanner.point = none then some 0 else s.scanner.point) ∧
    (s.storeSound → OnlyMirrorWritten s { s with store := store }) := by
  obtain ⟨writer, store, passed, words⟩ := blocksPassed_frame s
  have point := boundaryRest_point s.blocksPassed
  rw [passBoundary_eq, boundaryRest_frame]
  generalize s.blocksPassed.boundaryRest.scanner = scanner at point ⊢
  rw [passed] at point ⊢
  exact ⟨scanner, writer, store, rfl, point, words⟩

end

end Sys2Proof.Machine
end

section
/-! SUPPORT. The frame boundary (R12) and what it owes, done: every block as the boundary leaves it. -/

namespace Sys2Proof.Machine

open State

/-! ## One port, one line, one output (R27, R41, R59) -/

theorem port_boundary (p : Port) : p.countPulse.countFrame.active = p.active ∧ p.countPulse.countFrame.anchor = p.anchor ∧
    ∀ x, p.active = some x → p.countPulse.countFrame.cadenceFrame =
      if p.cadenceFrame + 1 < x.frames then p.cadenceFrame + 1 else 0 := by
  cases active : p.active with
  | none =>
    have idle : p.countPulse.countFrame = p.countPulse := by simp only [Port.countFrame, Port.countPulse, active]
    rw [idle]
    exact ⟨active, rfl, nofun⟩
  | some x =>
    have counted : p.countPulse.countFrame = if p.cadenceFrame + 1 < x.frames then
        { p.countPulse with cadenceFrame := p.cadenceFrame + 1 } else { p.countPulse with cadenceFrame := 0, nextEvent := 0 } := by
      simp only [Port.countFrame, Port.countPulse, active]
    rw [counted]
    split
    · next h => exact ⟨active, rfl, fun y same => by cases same; rw [if_pos h]⟩
    · next h => exact ⟨active, rfl, fun y same => by cases same; rw [if_neg h]⟩

theorem line_boundary_follows {isOpen : GroupId → Bool} {l : Line} {g : GroupId} (bound : l.group = some g) (quiet : l.pulse = none)
    (still : l.pending = none) : (l.boundary isOpen).level = isOpen g := by
  simp only [Line.boundary, quiet, Line.follow, bound, Line.actPending, still]

theorem output_boundary (span : Nat) (x : Output) : (x.countFrame span).anchor = x.anchor ∧
    (x.wordFrame + 1 < span → (x.countFrame span).wordFrame = x.wordFrame + 1) ∧
    (span ≤ x.wordFrame + 1 → (x.countFrame span).wordFrame = 0 ∧ (x.countFrame span).boundaryOwed = true) := by
  rw [Output.countFrame]
  split
  · next h => exact ⟨rfl, fun _ => rfl, fun late => absurd h (Nat.not_lt.mpr late)⟩
  · next h => exact ⟨rfl, fun early => absurd early h, fun _ => ⟨rfl, rfl⟩⟩

theorem output_boundary_kept (span : Nat) (x : Output) : (x.countFrame span).settings = x.settings ∧
    (x.countFrame span).state = x.state ∧ (x.countFrame span).request = x.request := by
  rw [Output.countFrame]
  split <;> exact ⟨rfl, rfl, rfl⟩

/-! ## Every block (R12) -/

/-- What stands once a frame boundary has passed and what it owes is done. -/
theorem boundaryDone_frame (s : State) : ∃ scanner writer store outputs runs, s.passBoundary.finishOwed = { s with
      clock := s.clock.advance.boundary, ports := (s.ports.map Port.countPulse).map Port.countFrame
      lines := s.lines.map (Line.boundary s.groupOpen), outputs := outputs, runs := runs
      groups := if s.clockPassed.owed.unlocked then s.unlockedNotice.groups else s.groups
      devices := s.devices.map fun y => y.map Device.countSilence
      scanner := scanner, writer := writer, store := store, owed := { unlocked := false, count := false, check := false } } ∧
    scanner.point = (if s.bus.ready = true ∧ s.scanner.point = none then some 0 else s.scanner.point) ∧
    (s.storeSound → OnlyMirrorWritten s { s with store := store }) ∧
    ∀ o : OutputId, outputs[o] = { s.outputs[o].countFrame (rateSpan s.clock.rate) with request := outputs[o].request } := by
  obtain ⟨scanner, writer, store, passed, point, words⟩ := passBoundary_frame s
  obtain ⟨outputs, runs, done, requests⟩ := finishOwed_moved s.passBoundary
  rw [noticed_eq, passed] at done requests
  refine ⟨scanner, writer, store, outputs, runs, ?_, point, words, fun o => ?_⟩
  · rw [passed, done]
    rfl
  · have output : (s.outputs.map (Output.countFrame (rateSpan s.clock.rate)))[o] =
        s.outputs[o].countFrame (rateSpan s.clock.rate) := Vector.getElem_map _ o.isLt
    rw [← output]
    exact requests o

end Sys2Proof.Machine
end

section
/-! SUPPORT. FRAME_BOUNDARY: the runs its check starts (R116, R117), and the row. -/

namespace Sys2Proof.Machine

open State

/-! ## The check of the boundary (R116, R117) -/

/-- R141: the notice keeps which groups are open, and the participants of their takes. -/
theorem current_of_noticed {s : State} {owes : Bool} {g : GroupId} {k : Take}
    (current : (if owes then s.unlockedNotice.groups else s.groups)[g].current = some k) :
    ∃ was, s.groups[g].current = some was ∧ ∀ d, k.lists d = was.lists d := by
  cases owes with
  | false => exact ⟨k, current, fun _ => rfl⟩
  | true =>
    have group : s.unlockedNotice.groups[g] = Group.mapOpen (fun _ => true)
        (fun t => { t with flags := { t.flags with clockUnlocked := true } }) s.groups[g] := noticeTakes_group s _ _ g
    rw [if_pos rfl, group] at current
    cases open_before : s.groups[g].current with
    | none =>
      rw [mapOpen_shut open_before] at current
      cases open_before.symm.trans current
    | some was =>
      rw [mapOpen_open open_before rfl] at current
      obtain ⟨taken, _⟩ := current_eq_some.mp current
      cases taken
      exact ⟨was, rfl, fun _ => rfl⟩

theorem boundary_unchanged {c : Clock} (still : c.pendingTune = none) : c.boundary.state = c.state := by
  rw [boundary_kept, afterTune_none still]
  rfl

/-- R116: what must hold before a boundary for its check to start a run on an output. -/
theorem boundary_starts {s : State} {o : OutputId} {d : DeviceId} {x : Device} (moving : s.clock.state ≠ .stopped)
    (still : s.clock.pendingTune = none) (free : s.runs[o] = none) (mode : s.outputs[o].settings.mode ≠ .off)
    (waking : s.outputs[o].state ≠ .waking) (bursting : s.outputs[o].state ≠ .bursting) (request : s.outputs[o].request = none)
    (enrolled : s.devices[d] = some x) (listens : x.settings.jamOutput = some o) (wanted : x.jamWanted = true)
    (undeferred : ∀ (g : GroupId) (k : Take), s.groups[g].current ≠ some k ∨ ∀ (e : DeviceId) (y : Device),
      s.devices[e] = some y → y.settings.jamOutput = some o → y.settings.policy = .deferInTake → k.lists e = false) :
    s.passBoundary.noticed.AutoStarts o := by
  obtain ⟨scanner, writer, store, passed, _, _⟩ := passBoundary_frame s
  have device (e : DeviceId) : (s.devices.map fun y => y.map Device.countSilence)[e] = s.devices[e].map Device.countSilence :=
    Vector.getElem_map _ e.isLt
  have counted (y : Device) : y.countSilence.settings = y.settings ∧ y.countSilence.jamWanted = y.jamWanted := by
    rw [Device.countSilence]
    split <;> exact ⟨rfl, rfl⟩
  have output : (s.outputs.map (Output.countFrame (rateSpan s.clock.rate)))[o] =
      s.outputs[o].countFrame (rateSpan s.clock.rate) := Vector.getElem_map _ o.isLt
  obtain ⟨settings, state, requested⟩ := output_boundary_kept (rateSpan s.clock.rate) s.outputs[o]
  have here : s.clock.advance.boundary.state = s.clock.state := boundary_unchanged (c := s.clock.advance) still
  rw [noticed_eq, passed]
  simp only [State.AutoStarts, output, settings, state, requested, here, if_true, device]
  refine ⟨moving, free, mode, ⟨d, x.countSilence, by rw [enrolled]; rfl, ?_, ?_⟩, ?_, waking, bursting, request⟩
  · rw [(counted x).1]
    exact listens
  · rw [(counted x).2]
    exact wanted
  · rintro ⟨e, y, g, k, is, toThis, defers, current, listed⟩
    obtain ⟨was, before, same⟩ := current_of_noticed current
    obtain ⟨y', known, rfl⟩ := Option.map_eq_some_iff.mp is
    rw [(counted y').1] at toThis defers
    rw [same] at listed
    rcases undeferred g was with other | none
    · exact other before
    · exact Bool.noConfusion (listed.symm.trans (none e y' known toThis defers))

/-- What of the clock a frame boundary sets whatever its state (R2, R8). -/
theorem advance_boundary (c : Clock) : c.advance.boundary.frame = c.frame + 1 ∧ c.advance.boundary.tick = 0 ∧
    c.advance.boundary.phase = .single ∧ c.advance.boundary.arrived = false ∧ c.advance.boundary.rate = c.rate ∧
    c.advance.boundary.startCount = c.startCount := by
  obtain ⟨frame, tick, phase, rate, start⟩ := afterTune_kept c.advance
  rw [boundary_kept]
  exact ⟨frame, tick, phase, rfl, rate, start⟩

/-- R116, R117: the run that the boundary's check starts. -/
theorem boundaryDone_starts {s : State} {o : OutputId} (starts : s.passBoundary.noticed.AutoStarts o) :
    s.passBoundary.finishOwed.outputs[o].request = some (s.clock.frame + 1) ∧
      ∃ r, s.passBoundary.finishOwed.runs[o] = some r ∧ r.origin = .auto ∧ r.phase = .requested ∧
        r.startFrame = s.clock.frame + 1 := by
  obtain ⟨_, _, _, passed, _, _⟩ := passBoundary_frame s
  have owes : s.passBoundary.owed.check = true := by rw [passed]
  have frame : s.passBoundary.clock.frame = s.clock.frame + 1 := by
    rw [passed]
    exact (advance_boundary s.clock).1
  have here : s.passBoundary.noticed.clock = s.passBoundary.clock := by rw [noticed_eq]
  obtain ⟨request, run⟩ := finishOwed_starts owes starts
  rw [frame] at request
  exact ⟨request, _, run, rfl, rfl, (congrArg Clock.frame here).trans frame⟩

/-! ## The row (R2, R12) -/

theorem countTick_bus_ready (s : State) : s.countTick.bus.ready = s.bus.ready := by
  simp only [countTick]
  split <;> rfl

theorem countTick_scanner {s : State} (moving : s.clock.state ≠ .stopped) : s.countTick.scanner = s.scanner := by
  simp only [countTick, (running_iff s).mpr moving, Bool.not_true, Bool.and_false, Bool.false_eq_true, if_false]

/-- R8: what of the clock a pending tune sets. -/
theorem advance_boundary_tune {c : Clock} (moving : c.state ≠ .stopped) {x : Tune} (tune : c.pendingTune = some x) :
    c.advance.boundary.slew = x.slew ∧ c.advance.boundary.window = x.window ∧
    c.advance.boundary.holdoverLimit = x.holdover ∧ c.advance.boundary.crashPermit = x.crash ∧
    c.advance.boundary.refUse = x.refUse ∧ c.advance.boundary.pendingTune = none ∧
    (x.refUse = false → c.advance.boundary.state = .freeRun ∧ c.advance.boundary.correction = 0) := by
  have free (off : x.refUse = false) := boundary_free (afterTune_unreferenced (c := c.advance) tune off moving)
  obtain ⟨slew, window, holdover, crash, use, none⟩ := afterTune_some (c := c.advance) tune
  refine ⟨?_, ?_, ?_, ?_, ?_, ?_, free⟩ <;> rw [boundary_kept] <;> assumption

/-- R12, R13, R18, R19: what of the clock a boundary without a tune sets. -/
theorem advance_boundary_judged {c : Clock} (still : c.pendingTune = none) :
    let missed := c.refUse && !c.arrived
    let run := if missed then min 65535 (c.missingRun + 1) else c.missingRun
    c.advance.boundary.missingRun = run ∧ c.advance.boundary.lockRun = (if missed then 0 else c.lockRun) ∧
      (c.state = .holdover → c.advance.boundary.holdoverCount = min 65535 (c.holdoverCount + 1)) ∧
      (c.state ≠ .holdover → c.advance.boundary.holdoverCount = c.holdoverCount) ∧
      (c.state = .freeRun → c.advance.boundary.correction = 0) ∧
      ((c.state = .locked ∨ c.state = .locking) → run < 4 →
        c.advance.boundary.settleOwed = false ∧ c.advance.boundary.ordered = none ∧
        c.advance.boundary.correction = saturate c.slew ((c.ordered.map fun e => e.error).getD 0) ∧
        c.advance.boundary.history = (if (c.ordered.map fun e => e.takenIn) = some .locked then
          pushHistory c.history c.advance.boundary.correction else c.history)) := by
  intro missed run
  have untuned : c.advance.afterTune = c.advance := afterTune_none still
  refine ⟨?_, ?_, fun holds => ?_, fun other => ?_, fun free => ?_, fun follows few => ?_⟩
  · rw [boundary_kept, untuned]
    rfl
  · rw [boundary_kept, untuned]
    rfl
  · rw [boundary_kept, untuned]
    exact if_pos holds
  · rw [boundary_kept, untuned]
    exact if_neg other
  · exact (boundary_free (c := c.advance) (by rw [untuned]; exact free)).2
  · exact boundary_following (c := c.advance) still follows few

/-- Settles O26: the boundary block by block once the tick has passed, and what is owed done where none passes. -/
theorem frameBoundaryAdvancesTheFrame : Obligations.FrameBoundaryAdvancesTheFrame := by
  intro w s v
  have row : exec (.frameBoundary w) s = .next (frameBoundary (upTo w s)) := rfl
  have tick : (upTo w s).finishTick = v := rfl
  clear_value v
  refine ⟨fun moving last goes => ?_, fun stays => ?_⟩
  · rw [frameBoundary_passes tick moving last goes] at row
    obtain ⟨scanner, writer, store, outputs, runs, done, point, words, requests⟩ := boundaryDone_frame v.countTick
    have starts (o : OutputId) := boundaryDone_starts (s := v.countTick) (o := o)
    have ready := countTick_bus_ready v
    have scans := countTick_scanner moving
    generalize v.countTick.passBoundary.finishOwed = q at row done starts
    refine ⟨q, row, ?_⟩
    rw [ready, scans] at point
    subst done
    obtain ⟨frame, tick, phase, arrived, rate, start⟩ := advance_boundary v.clock
    refine ⟨frame, tick, phase, arrived, rate, start, fun x => advance_boundary_tune moving, advance_boundary_judged, fun d => ?_,
      fun i => ?_, fun i g bound quiet still => ?_, fun o => ?_, point,
      fun o d x still free mode waking bursting request enrolled listens wanted undeferred => ?_,
      fun x g k tune off locked current => ?_, rfl, rfl, rfl, rfl, rfl, fun sound a outside => ?_⟩
    · exact Vector.getElem_map _ d.isLt
    · have port : ((v.ports.map Port.countPulse).map Port.countFrame)[i] = v.ports[i].countPulse.countFrame :=
        (Vector.getElem_map _ i.isLt).trans (congrArg Port.countFrame (Vector.getElem_map _ i.isLt))
      have counted := port_boundary v.ports[i]
      rw [← port] at counted
      exact counted
    · have line : (v.lines.map (Line.boundary v.groupOpen))[i] = v.lines[i].boundary v.groupOpen := Vector.getElem_map _ i.isLt
      exact (congrArg Line.level line).trans (line_boundary_follows bound quiet still)
    · have output := requests o
      dsimp only
      generalize outputs[o] = y at output ⊢
      rw [output]
      exact output_boundary (rateSpan v.clock.rate) v.outputs[o]
    · exact starts o (boundary_starts (s := v.countTick) moving still free mode waking bursting request enrolled listens wanted
        undeferred)
    · have owes : v.countTick.clockPassed.owed.unlocked = true :=
        clockBoundary_owes (s := v.countTick.countPulses.setClock v.countTick.clock.advance) tune off locked
      have group : v.unlockedNotice.groups[g] = Group.mapOpen (fun _ => true)
          (fun t => { t with flags := { t.flags with clockUnlocked := true } }) v.groups[g] := noticeTakes_group v _ _ g
      have notice : v.unlockedNotice.groups[g].take = some { k with flags := { k.flags with clockUnlocked := true } } := by
        rw [group, mapOpen_open current rfl]
      simp only [owes, if_true]
      exact notice
    · exact (words sound).2 a outside
  · rw [frameBoundary_stays tick stays] at row
    intro u
    have at_u : upTo w s = u := rfl
    rw [at_u] at row
    clear_value u
    have moved := finishOwed_moved u
    have unchecked := @finishOwed_unchecked u
    refine ⟨u.finishOwed, row, finishOwed_done, ?_⟩
    rw [noticed_eq] at moved unchecked
    obtain ⟨outputs, runs, done, _⟩ := moved
    rw [done]
    refine ⟨rfl, rfl, rfl, rfl, fun made => ?_⟩
    have same := done.symm.trans (unchecked made)
    exact ⟨(congrArg State.runs same :), (congrArg State.outputs same :)⟩

end Sys2Proof.Machine
end
